-- ==== Sys2Proof/Word.lean ====
section
/-!
DEFINITION. The word types of FSYNC and the byte values the spec names (00_scope.md R11, R12, R15;
30_encoding.md R70). Every value is unsigned.
-/

namespace Sys2Proof

/-- A byte, `0..255`, unsigned (R11). -/
abbrev Byte := BitVec 8

/-- A sample's type, u16 (R10, R11). -/
abbrev U16 := BitVec 16

/-- The timing value's type, u32 (R10, R11). -/
abbrev U32 := BitVec 32

/-- The 12-bit event word `EV` (R70): kind in `EV[11:8]`, data in `EV[7:0]`. -/
abbrev EventWord := BitVec 12

/-- The line terminator, `0x0A` (R15; the byte value is item K1 of 93_implementation_defined.md). -/
def LF : Byte := 0x0A

/-- Carriage return, `0x0D`, an ordinary byte for FSYNC (R15, R97; item K2). -/
def CR : Byte := 0x0D

end Sys2Proof
end

