-- ==== Sys2Proof/Config.lean ====
section
/-!
DEFINITION. What is fixed when the block is built: the parameters `N` and `MARKER` (00_scope.md R6, R7;
10_state.md R34), their default values, and the one value the spec leaves unspecified (the bytes of FB
that no step has written, R39).
-/

namespace Sys2Proof

/-- The elaboration-time parameters (R6, R7, R34): `n` is `N`, the samples per frame; `marker` is
`MARKER[0..36]`. They are arguments of the model; the machine carries them unchanged. -/
structure Params where
  n      : Nat
  marker : List Byte
deriving DecidableEq, Repr

/-- The spec's default pixel count (R6). -/
def Config.defaultN : Nat := 3100

/-- The example Marker of 95_test_vectors.md section 0, 36 times 'A' and LF. DESIGN CHOICE, unsafe (log
entry 3): the device's Marker is in no source (R7), and `State.reset` needs one. -/
def Config.exampleMarker : List Byte := List.replicate 36 0x41 ++ [LF]

/-- The parameters `State.reset` is built with: `N` as R6's default, the Marker by log entry 3. -/
def Config.defaultParams : Params := ⟨Config.defaultN, Config.exampleMarker⟩

/-- The free value of an FB byte that nothing has written since the last reset (R39, R56; item U9 of
93_implementation_defined.md, "any value"): first argument the number of resets, second the address.
It has no body, so no proof can use what it is (log entry 4). -/
opaque Config.freeByte : Nat → Nat → Byte

end Sys2Proof
end

