-- ==== Sys2Proof/Machine/Memory.lean ====
section
/-!
DEFINITION. The memory FB is held in (20_memory.md R45, R48, R53): a list of (address, byte) pairs in one
canonical form, addresses strictly rising. An address that is not listed holds no value the spec gives
(R39), so no entry can equal it, and a write always lists its address.
-/

namespace Sys2Proof.Machine

/-- Bytes by address, in rising address order. -/
abbrev Memory := List Host.Cell

/-- The byte listed at an address, if any. -/
def Memory.lookup : Memory → Nat → Option Byte
  | [], _ => none
  | (k, v) :: m, a => if k = a then some v else Memory.lookup m a

/-- `MemWrite(a, 1, b)`: address `a` lists `b` (R13). -/
def Memory.write : Memory → Nat → Byte → Memory
  | [], a, b => [(a, b)]
  | (k, v) :: m, a, b =>
    if a < k then (a, b) :: (k, v) :: m
    else if a = k then (a, b) :: m
    else (k, v) :: Memory.write m a b

/-- The canonical form for a memory of `len` bytes: addresses strictly rising, each below `len` (R27). -/
abbrev Memory.wf (len : Nat) (m : Memory) : Prop :=
  m.Pairwise (fun x y => x.1 < y.1) ∧ ∀ c ∈ m, c.1 < len

end Sys2Proof.Machine
end

