-- ==== Sys2Proof/Machine/State.lean ====
section
/-!
DEFINITION. FSYNC's state (10_state.md R20), the outputs it emits (30_encoding.md R80), the inputs waiting
at its port and its reset input, the reasons a step can stop, and the state after reset (R39, R200).
-/

namespace Sys2Proof.Machine

/-- The sequencer state, 3 bits (R23). The values 5, 6 and 7 are never held: an event that finds one
stops with a fault (item U12 of 93_implementation_defined.md). -/
inductive Loop where
  | idle
  | syncing
  | reading
  | stopped
  | terminated
  | never5
  | never6
  | never7
deriving DecidableEq, Repr

/-- The connection state, 1 bit (R24). -/
inductive Conn where
  | closed
  | opened
deriving DecidableEq, Repr

/-- The 2-bit error code of `last_error` (R30, R175). -/
inductive ErrorCode where
  | none
  | portUnavailable
  | timeout
  | ioFailure
deriving DecidableEq, Repr

/-- The kinds that end a running loop (R181). -/
inductive FatalKind where
  | timeout
  | ioFailure
deriving DecidableEq, Repr

/-- Why a loop ended, as END carries it (R80, R82). -/
inductive EndReason where
  | stopped
  | timeout
  | ioFailure
deriving DecidableEq, Repr

/-- An output event (R80): FRAME with its samples in transmission order and its timing value (R81),
FLUSH_REQ, CLOSE_REQ, END. -/
inductive OutEvent where
  | frame (samples : List U16) (timing : U32)
  | flushReq
  | closeReq
  | ended (reason : EndReason)
deriving DecidableEq, Repr

/-- What the environment presents in one step: an event word at the port (R70), or the reset input
asserted (R200), with the event word that arrives in the same step, if one does, which is lost (R201). -/
inductive Input where
  | event (ev : EventWord)
  | reset (lost : Option EventWord)
deriving DecidableEq, Repr

/-- The machine. `loop` to `cmdError` are R20's fields; `cfg` holds the parameters (R34), which no step
changes. The last three are the model's own (log entries 1, 2, 4): the inputs the environment will
present, in its chosen order (R18, R185); the output trace since reset (R17); and how many resets FB has
seen, which names the free values of its unwritten bytes. -/
structure State where
  cfg         : Params
  loop        : Loop
  conn        : Conn
  lineLen     : Nat
  lineMatch   : Bool
  rdCnt       : Nat
  fb          : Memory
  stopPending : Bool
  lastError   : ErrorCode
  cmdError    : Bool
  input       : List Input
  trace       : List OutEvent
  fbDraw      : Nat
deriving DecidableEq, Repr

/-- Why the machine stops with a fault. -/
inductive Fault where
  /-- Raised by every event that finds `loop` at 5, 6 or 7, which no rule writes (R23, item U12). Safe: the
  model stops, and no run from reset gets there. -/
  | loopNeverHeld
  /-- Raised by RX_BYTE in READING with `rd_cnt` above `2N+5`, where no rule matches (R14, R120, R127).
  Safe: the model stops, and no run from reset gets there. -/
  | rdCntOutOfRange
deriving DecidableEq, Repr

/-- Why a step has no meaning. -/
inductive Refusal where
  /-- Raised by `exec` for an event whose meaning is not written; no arm of this model uses it. Safe. -/
  | notModelled (mnemonic : String)
  /-- Raised by RX_BYTE while `rx_ready = 0`: it cannot be delivered and has no step (R76, R87, item U16).
  Safe: the step function of R18 answers `none` here. -/
  | rxNotReady
  /-- Raised by `step` when nothing is at the port: waiting for an event is the absence of a step (R195).
  Safe. -/
  | noEvent
  /-- Raised by `step` when the parameters are not ones FSYNC can be built with (R6, R7, items U3, U4).
  Safe. -/
  | illFormedParams
deriving DecidableEq, Repr

/-- The three outcomes of a step of this machine. -/
abbrev Outcome := Host.Outcome State Fault Refusal

/-- The state right after reset, for any parameters (R39, R200): nothing at the port, nothing emitted, no
byte of FB holding a value the spec gives. -/
def State.resetWith (p : Params) : State where
  cfg := p
  loop := .idle
  conn := .closed
  lineLen := 0
  lineMatch := true
  rdCnt := 0
  fb := []
  stopPending := false
  lastError := .none
  cmdError := false
  input := []
  trace := []
  fbDraw := 0

/-- The state right after reset, built with the default parameters (R6; the Marker by log entry 3). -/
def State.reset : State := State.resetWith Config.defaultParams

end Sys2Proof.Machine
end

