-- ==== Sys2Proof/Machine/Flags.lean ====
section
/-!
DEFINITION. The codes of the fields, STATUS and rx_ready (10_state.md R23, R24, R30, R32, R33; 30_encoding.md
R82; 60_exceptions.md R175), and which events set cmd_error (R31).
-/

namespace Sys2Proof.Machine

/-- The 3-bit code of `loop` (R23). -/
def Loop.code : Loop → BitVec 3
  | .idle => 0
  | .syncing => 1
  | .reading => 2
  | .stopped => 3
  | .terminated => 4
  | .never5 => 5
  | .never6 => 6
  | .never7 => 7

/-- `loop` holds one of its five values (R23, R35 clause 6). -/
def Loop.held : Loop → Bool
  | .idle | .syncing | .reading | .stopped | .terminated => true
  | .never5 | .never6 | .never7 => false

/-- *Running*: the loop state is SYNCING or READING (R17). -/
def Loop.running : Loop → Bool
  | .syncing | .reading => true
  | .idle | .stopped | .terminated | .never5 | .never6 | .never7 => false

/-- The 1-bit code of `conn` (R24). -/
def Conn.code : Conn → BitVec 1
  | .closed => 0
  | .opened => 1

/-- The 2-bit error code (R30, R175). -/
def ErrorCode.code : ErrorCode → BitVec 2
  | .none => 0
  | .portUnavailable => 1
  | .timeout => 2
  | .ioFailure => 3

/-- The code an END event carries (R82). -/
def EndReason.code : EndReason → BitVec 2
  | .stopped => 0
  | .timeout => 2
  | .ioFailure => 3

/-- The error code a fatal kind leaves in `last_error` (R175, R181). -/
def FatalKind.error : FatalKind → ErrorCode
  | .timeout => .timeout
  | .ioFailure => .ioFailure

/-- The reason a fatal kind gives END (R82, R181). -/
def FatalKind.reason : FatalKind → EndReason
  | .timeout => .timeout
  | .ioFailure => .ioFailure

/-- A flag as a bit. -/
def flagBit (b : Bool) : BitVec 1 := if b then 1 else 0

/-- The 8-bit STATUS output: `[2:0]` loop, `[3]` conn, `[5:4]` last_error, `[6]` stop_pending, `[7]`
cmd_error (R32). -/
def statusWord (s : State) : BitVec 8 :=
  flagBit s.cmdError ++ (flagBit s.stopPending ++ (s.lastError.code ++ (s.conn.code ++ s.loop.code)))

/-- The `rx_ready` output: 1 exactly while running (R33). -/
def rxReady (s : State) : Bool := s.loop.running

end Sys2Proof.Machine
end

