-- ==== Sys2Proof/Machine/Sizes.lean ====
section
/-!
DEFINITION. The sizes derived from `N` (00_scope.md R9, 70_reset_and_hazards.md R214).
-/

namespace Sys2Proof.Machine

/-- `PAYLOAD_LEN = 2*N` bytes (R9). -/
abbrev payloadLen (n : Nat) : Nat := 2 * n

/-- `BODY_LEN = 2*N + 6` bytes: everything after the Marker (R9). -/
abbrev bodyLen (n : Nat) : Nat := 2 * n + 6

/-- `FB_LEN = 2*N + 4` bytes: the frame buffer (R9, R27). -/
abbrev fbLen (n : Nat) : Nat := 2 * n + 4

/-- `WIRE_FRAME_LEN = 37 + 2*N + 6` bytes: a whole frame with its Marker (R9). -/
abbrev wireFrameLen (n : Nat) : Nat := 37 + 2 * n + 6

/-- `CNT_W = ceil(log2(2*N + 6))` bits, the width of rd_cnt (R9). -/
def cntWidth (n : Nat) : Nat := Nat.log2 (2 * n + 5) + 1

end Sys2Proof.Machine
end

