-- ==== Sys2Proof/Machine/Operands.lean ====
section
/-!
DEFINITION. What a received byte is an operand of: the Marker byte it is compared with (41_synchronizer.md
R106), or the body position it belongs to, with the FB address it is stored at (42_frame_reader.md R120).
-/

namespace Sys2Proof.Machine

/-- `b = MARKER[k]` (R106). -/
def matchesMarkerAt (p : Params) (k : Nat) (b : Byte) : Bool := p.marker[k]? == some b

/-- The role of the next body byte (R120); a stored byte's role carries its FB address. -/
inductive BodyRole where
  | payload (addr : Nat)
  | delimiter1
  | timing (addr : Nat)
  | delimiter2
deriving DecidableEq, Repr

/-- R120's field map: the role of the body byte at `rd_cnt = c`, none above `2N+5`. -/
def bodyRole (n c : Nat) : Option BodyRole :=
  if c < 2 * n then some (.payload c)
  else if c = 2 * n then some .delimiter1
  else if c ≤ 2 * n + 4 then some (.timing (c - 1))
  else if c = 2 * n + 5 then some .delimiter2
  else none

/-- The FB address the next RX_BYTE stores its byte at, if it stores it (R40, R120, R121, R123). -/
def fbStoreAddr (s : State) : Option Nat :=
  match s.loop with
  | .reading =>
    match bodyRole s.cfg.n s.rdCnt with
    | some (.payload a) => some a
    | some (.timing a) => some a
    | some .delimiter1 | some .delimiter2 | none => none
  | .idle | .syncing | .stopped | .terminated | .never5 | .never6 | .never7 => none

end Sys2Proof.Machine
end

