-- ==== Sys2Proof/Machine/Ops.lean ====
section
/-!
DEFINITION. The operations the meanings share (00_scope.md R13, R14): FB reads and writes, `emit`, the line
reset, acceptance and `reject`, START's and STOP's actions, the one fatal termination of 60_exceptions.md
R181 (FSYNC's counterpart of taking an exception), and the reset of 70_reset_and_hazards.md R200.
FSYNC has no return from an exception (R188): START after OPEN begins the next loop.
-/

namespace Sys2Proof.Machine

/-- `FB[a]` (R13): the byte listed there, or the free value of a byte nothing has written (R39). -/
def fbByte (s : State) (a : Nat) : Byte :=
  (Memory.lookup s.fb a).getD (Config.freeByte s.fbDraw a)

/-- `MemRead(a, n)`: `n` bytes from `a` as one unsigned value, the byte at `a` least significant (R13, R48). -/
def memRead (s : State) (a : Nat) : Nat → Nat
  | 0 => 0
  | n + 1 => (fbByte s a).toNat + 256 * memRead s (a + 1) n

/-- `MemWrite(a, 1, b)`: `FB[a] <- b` (R13). -/
def memWrite (a : Nat) (b : Byte) (s : State) : State := { s with fb := Memory.write s.fb a b }

/-- `emit E` (R14). -/
def emit (e : OutEvent) (s : State) : State := { s with trace := s.trace ++ [e] }

/-- The line reset (R36). -/
def lineReset (s : State) : State := { s with lineLen := 0, lineMatch := true }

/-- `rd_cnt <- rd_cnt + 1` (R124). -/
def advance (s : State) : State := { s with rdCnt := s.rdCnt + 1 }

/-- An accepted command leaves `cmd_error` 0 (R31). -/
def accept (s : State) : State := { s with cmdError := false }

/-- `reject`: `cmd_error <- 1`, nothing else (R14, R170). -/
def reject (s : State) : State := { s with cmdError := true }

/-- The end of a loop, common to a stop and a fatal termination: CLOSE_REQ, then END, then the fields R165
and R181 both write. -/
def endLoop (l : Loop) (r : EndReason) (s : State) : State :=
  lineReset { emit (.ended r) (emit .closeReq s) with
    conn := .closed, loop := l, stopPending := false, rdCnt := 0 }

/-- The stop action (R165). -/
def stopAction (s : State) : State := endLoop .stopped .stopped s

/-- `raise Fatal(k)`: fatal termination (R181, R187). `last_error` saves the kind; FB and `cmd_error` keep
their values and no FRAME is emitted. -/
def raiseFatal (k : FatalKind) (s : State) : State :=
  { endLoop .terminated k.reason s with lastError := k.error }

/-- What RX_TIMEOUT and RX_IOFAIL share: fatal while running, otherwise ignored (R179, R180). -/
def readError (k : FatalKind) (s : State) : State :=
  if s.loop.running then raiseFatal k s else s

/-- An accepted START (R160). -/
def startLoop (s : State) : State :=
  accept (lineReset { emit .flushReq s with
    loop := .syncing, rdCnt := 0, stopPending := false, lastError := .none })

/-- The reset input (R200): every field at its reset value, the trace empty (R17), FB unspecified anew; the
parameters (R202) and the inputs still to come stay. -/
def resetInput (s : State) : State :=
  { State.resetWith s.cfg with input := s.input, fbDraw := s.fbDraw + 1 }

/-- The next state of an event that has a step in every state; a `loop` value that is never held is a
fault instead (R76, item U12 of 93_implementation_defined.md). -/
def nextIfHeld (s t : State) : Outcome :=
  if s.loop.held then .next t else .fault .loopNeverHeld

end Sys2Proof.Machine
end

