-- ==== Sys2Proof/Machine/AcquisitionLoop.lean ====
section
/-!
DEFINITION. The meanings of START, STOP and the reserved kinds (44_acquisition_loop.md R160 to R170;
30_encoding.md R77).
-/

namespace Sys2Proof.Machine

/-- START: accepted when open and not running (R160), else rejected (R161). -/
def execStart (_x : BitVec 8) (s : State) : Outcome :=
  nextIfHeld s
    (match s.conn with
     | .opened => if s.loop.running then reject s else startLoop s
     | .closed => reject s)

/-- STOP: at once in SYNCING (R164), deferred in READING (R166), no effect when not running (R167). -/
def execStop (_x : BitVec 8) (s : State) : Outcome :=
  nextIfHeld s
    (match s.loop with
     | .syncing => accept (stopAction s)
     | .reading => accept { s with stopPending := true }
     | .idle | .stopped | .terminated | .never5 | .never6 | .never7 => accept s)

/-- Kind 0x0: a rejected command (R77, R170). -/
def execReserved0 (_x : BitVec 8) (s : State) : Outcome := nextIfHeld s (reject s)

/-- Kinds 0x8 to 0xF: a rejected command (R77, R170). -/
def execReserved8F (_k : BitVec 3) (_x : BitVec 8) (s : State) : Outcome := nextIfHeld s (reject s)

end Sys2Proof.Machine
end

