-- ==== Sys2Proof/Machine/ByteSource.lean ====
section
/-!
DEFINITION. The meanings of the connection commands OPEN and CLOSE (40_byte_source.md R91 to R95).
-/

namespace Sys2Proof.Machine

/-- What both answers of OPEN share: accepted when closed, else rejected whatever the answer (R91 to R93). -/
def openCommand (answered : State → State) (s : State) : Outcome :=
  nextIfHeld s
    (match s.conn with
     | .closed => accept (answered s)
     | .opened => reject s)

/-- OPEN, answered "opened" (R91, R93). -/
def execOpenOk (_x : BitVec 7) (s : State) : Outcome :=
  openCommand (fun s => { s with conn := .opened }) s

/-- OPEN, answered PortUnavailable (R92, R93, R176). -/
def execOpenFail (_x : BitVec 7) (s : State) : Outcome :=
  openCommand (fun s => { s with lastError := .portUnavailable }) s

/-- The effect of an accepted CLOSE on the connection (R94). -/
def closeConnection (s : State) : State :=
  match s.conn with
  | .opened => { emit .closeReq s with conn := .closed }
  | .closed => s

/-- CLOSE (R94), rejected while running (R95). -/
def execClose (_x : BitVec 8) (s : State) : Outcome :=
  nextIfHeld s (if s.loop.running then reject s else accept (closeConnection s))

end Sys2Proof.Machine
end

