-- ==== Sys2Proof/Machine/FrameDecoder.lean ====
section
/-!
DEFINITION. The Frame Decoder (43_decoder.md): the pure function from FB to a frame's samples and timing.
-/

namespace Sys2Proof.Machine

/-- `sample(i) = MemRead(2*i, 2)`, a u16 (R140). -/
def sample (s : State) (i : Nat) : U16 := BitVec.ofNat 16 (memRead s (2 * i) 2)

/-- `timing = MemRead(2*N, 4)`, a u32 (R141). -/
def timing (s : State) : U32 := BitVec.ofNat 32 (memRead s (2 * s.cfg.n) 4)

/-- The samples of `Decode(FB)`, sample 0 first (R142). -/
def samples (s : State) : List U16 := (List.range s.cfg.n).map (sample s)

/-- `FRAME(Decode(FB))` (R125, R142). -/
def decodedFrame (s : State) : OutEvent := .frame (samples s) (timing s)

end Sys2Proof.Machine
end

