-- ==== Sys2Proof/Machine/FrameReader.lean ====
section
/-!
DEFINITION. The Frame Reader (42_frame_reader.md): RX_BYTE in READING.
-/

namespace Sys2Proof.Machine

/-- A payload or timing byte: store it, then advance (R121, R123, R124). -/
def storeByte (a : Nat) (b : Byte) (s : State) : State := advance (memWrite a b s)

/-- Delimiter 2: emit the frame, then honour a pending stop or scan on (R125, R165). -/
def completeFrame (s : State) : State :=
  let t := lineReset { emit (decodedFrame s) s with rdCnt := 0 }
  if s.stopPending then stopAction t else { t with loop := .syncing }

/-- RX_BYTE in READING, by the byte's role (R120). Delimiters are not inspected (R122, R126). -/
def readByte (b : Byte) (s : State) : Outcome :=
  match bodyRole s.cfg.n s.rdCnt with
  | some (.payload a) => .next (storeByte a b s)
  | some .delimiter1 => .next (advance s)
  | some (.timing a) => .next (storeByte a b s)
  | some .delimiter2 => .next (completeFrame s)
  | none => .fault .rdCntOutOfRange

end Sys2Proof.Machine
end

