-- ==== Sys2Proof/Machine/Synchronizer.lean ====
section
/-!
DEFINITION. The Frame Synchronizer (41_synchronizer.md): RX_BYTE in SYNCING, as the scanner of R106 and R107,
and the reference algorithm of R105, which compares whole lines.
-/

namespace Sys2Proof.Machine

/-- A byte that is not LF (R106). -/
def scanByte (b : Byte) (s : State) : State :=
  { s with
    lineMatch := s.lineMatch && (decide (s.lineLen < 36) && matchesMarkerAt s.cfg s.lineLen b)
    lineLen := min (s.lineLen + 1) 37 }

/-- LF: the line equals the Marker, or it is discarded (R107). -/
def scanLf (s : State) : State :=
  if s.lineMatch = true ∧ s.lineLen = 36
  then lineReset { s with loop := .reading, rdCnt := 0 }
  else lineReset s

/-- RX_BYTE in SYNCING (R106, R107). -/
def scan (b : Byte) (s : State) : State := if b = LF then scanLf s else scanByte b s

/-- The reference algorithm (R105): read lines and compare each with the Marker. `line` holds the current
line's bytes so far; the answer is the bytes after the first line that equals the Marker, if there is one. -/
def referenceSync (marker : List Byte) (line : List Byte) : List Byte → Option (List Byte)
  | [] => none
  | b :: bs =>
    if b = LF then
      if line ++ [b] = marker then some bs else referenceSync marker [] bs
    else referenceSync marker (line ++ [b]) bs

end Sys2Proof.Machine
end

