-- ==== Sys2Proof/Machine/Stream.lean ====
section
/-!
DEFINITION. The meanings of the stream events RX_BYTE, RX_TIMEOUT and RX_IOFAIL (44_acquisition_loop.md R156;
60_exceptions.md R179, R180). They never change cmd_error (R31).
-/

namespace Sys2Proof.Machine

/-- RX_BYTE (R106, R107, R120 to R125): no step while `rx_ready = 0` (R76). -/
def execRxByte (b : BitVec 8) (s : State) : Outcome :=
  match s.loop with
  | .syncing => .next (scan b s)
  | .reading => readByte b s
  | .idle | .stopped | .terminated => .refused .rxNotReady
  | .never5 | .never6 | .never7 => .fault .loopNeverHeld

/-- RX_TIMEOUT (R179); the data is ignored (R73). -/
def execRxTimeout (_x : BitVec 8) (s : State) : Outcome := nextIfHeld s (readError .timeout s)

/-- RX_IOFAIL (R180); the data is ignored (R73). -/
def execRxIofail (_x : BitVec 8) (s : State) : Outcome := nextIfHeld s (readError .ioFailure s)

end Sys2Proof.Machine
end

