-- ==== Sys2Proof/Syntax.lean ====
section
/-!
DEFINITION. The events FSYNC takes, one constructor per row of spec/opcode_table.json (30_encoding.md
R71, R88). A constructor keeps every bit its row leaves open, the ignored ones too (R78), so a 12-bit
word and an event determine each other.
-/

namespace Sys2Proof

/-- One event of the event port (R70, R71): FSYNC's counterpart of an instruction (R2). -/
inductive Instr where
  /-- `0x1bb`: one byte read from the byte source (R72). -/
  | rxByte (b : BitVec 8)
  /-- `0x2xx`: a read that timed out (R73); `x` is ignored. -/
  | rxTimeout (x : BitVec 8)
  /-- `0x3xx`: a read that failed (R73); `x` is ignored. -/
  | rxIofail (x : BitVec 8)
  /-- `0x4xx`, `EV[0] = 1`: the host's OPEN, answered "opened" (R74); `x` is the ignored `EV[7:1]`. -/
  | openOk (x : BitVec 7)
  /-- `0x4xx`, `EV[0] = 0`: the host's OPEN, answered PortUnavailable (R74); `x` is the ignored `EV[7:1]`. -/
  | openFail (x : BitVec 7)
  /-- `0x5xx`: the host's CLOSE (R75); `x` is ignored. -/
  | close (x : BitVec 8)
  /-- `0x6xx`: the host's START (R75); `x` is ignored. -/
  | start (x : BitVec 8)
  /-- `0x7xx`: the host's STOP (R75); `x` is ignored. -/
  | stop (x : BitVec 8)
  /-- Kind `0x0`, reserved (R77); `x` is ignored. -/
  | reserved0 (x : BitVec 8)
  /-- Kinds `0x8 .. 0xF`, reserved (R77); `k` is `EV[10:8]`, `x` is ignored. -/
  | reserved8F (k : BitVec 3) (x : BitVec 8)
deriving DecidableEq, Repr

end Sys2Proof
end

