-- ==== Sys2Proof/Machine/Dispatch.lean ====
section
/-!
DEFINITION. The dispatch of an event to its meaning (44_acquisition_loop.md R156).
-/

namespace Sys2Proof.Machine

def exec (i : Instr) (s : State) : Host.Outcome State Fault Refusal :=
  match i with
  | .rxByte b => Sys2Proof.Machine.execRxByte b s
  | .rxTimeout x => Sys2Proof.Machine.execRxTimeout x s
  | .rxIofail x => Sys2Proof.Machine.execRxIofail x s
  | .openOk x => Sys2Proof.Machine.execOpenOk x s
  | .openFail x => Sys2Proof.Machine.execOpenFail x s
  | .close x => Sys2Proof.Machine.execClose x s
  | .start x => Sys2Proof.Machine.execStart x s
  | .stop x => Sys2Proof.Machine.execStop x s
  | .reserved0 x => Sys2Proof.Machine.execReserved0 x s
  | .reserved8F k x => Sys2Proof.Machine.execReserved8F k x s

end Sys2Proof.Machine
end

