-- ==== Sys2Proof/Decode.lean ====
section
/-!
DEFINITION. The decoder of event words (30_encoding.md R70, R71, R79, R88), total on all 12-bit words and
rejecting by name what is no 12-bit word, then the encoder, then the table in match and mask form (R88).
-/

namespace Sys2Proof

/-- `EV[11:8]`, the kind (R70). -/
def evKind (ev : EventWord) : BitVec 4 := ev.extractLsb' 8 4

/-- `EV[7:0]`, the data (R70). -/
def evData (ev : EventWord) : BitVec 8 := ev.extractLsb' 0 8

/-- The event of an OPEN with data `d`: `EV[0]` is the byte source's answer, `EV[7:1]` are ignored (R74). -/
def decodeOpen (d : BitVec 8) : Instr :=
  if d.getLsbD 0 then .openOk (d.extractLsb' 1 7) else .openFail (d.extractLsb' 1 7)

/-- The event a word stands for (R71, R79). -/
def decode (ev : EventWord) : Instr :=
  match (evKind ev).toNat with
  | 0x0 => .reserved0 (evData ev)
  | 0x1 => .rxByte (evData ev)
  | 0x2 => .rxTimeout (evData ev)
  | 0x3 => .rxIofail (evData ev)
  | 0x4 => decodeOpen (evData ev)
  | 0x5 => .close (evData ev)
  | 0x6 => .start (evData ev)
  | 0x7 => .stop (evData ev)
  | _ => .reserved8F (ev.extractLsb' 8 3) (evData ev)

/-- Why bits are no event. -/
inductive DecodeError where
  /-- A bit above bit 11 is set: every event is 12 bits and no other length exists (R70). -/
  | widerThanTwelveBits
deriving DecidableEq, Repr

/-- The decoder on any number, bit 0 least significant. -/
def decodeBits (w : Nat) : Except DecodeError Instr :=
  if w < 2 ^ 12 then .ok (decode (BitVec.ofNat 12 w)) else .error .widerThanTwelveBits

/-- What the decoder reads from a row of spec/opcode_table.json whose bits are `w`. An event is one 12-bit
word, so the number of bits the table gives the row plays no part. -/
def decodeTableWord (_nbits w : Nat) : Option Instr :=
  match decodeBits w with
  | .ok i => some i
  | .error _ => none

/-- The word of an event (R71), kind above data. -/
def encode : Instr → EventWord
  | .reserved0 x => (0x0 : BitVec 4) ++ x
  | .rxByte b => (0x1 : BitVec 4) ++ b
  | .rxTimeout x => (0x2 : BitVec 4) ++ x
  | .rxIofail x => (0x3 : BitVec 4) ++ x
  | .openOk x => (0x4 : BitVec 4) ++ (x ++ (1 : BitVec 1))
  | .openFail x => (0x4 : BitVec 4) ++ (x ++ (0 : BitVec 1))
  | .close x => (0x5 : BitVec 4) ++ x
  | .start x => (0x6 : BitVec 4) ++ x
  | .stop x => (0x7 : BitVec 4) ++ x
  | .reserved8F k x => ((1 : BitVec 1) ++ k : BitVec 4) ++ x

/-- The mnemonic of an event's row in spec/opcode_table.json. -/
def Instr.mnemonic : Instr → String
  | .rxByte _ => "RX_BYTE"
  | .rxTimeout _ => "RX_TIMEOUT"
  | .rxIofail _ => "RX_IOFAIL"
  | .openOk _ => "OPEN_OK"
  | .openFail _ => "OPEN_FAIL"
  | .close _ => "CLOSE"
  | .start _ => "START"
  | .stop _ => "STOP"
  | .reserved0 _ => "RESERVED_0"
  | .reserved8F _ _ => "RESERVED_8_F"

/-- A row of the encoding table in match and mask form (R88). -/
structure OpcodeRow where
  mnemonic : String
  pat      : EventWord
  mask     : EventWord
deriving DecidableEq, Repr

/-- R88's table; its last line, "reserved", is the table file's two rows. -/
def opcodeRows : List OpcodeRow :=
  [ ⟨"RX_BYTE", 0x100, 0xF00⟩,
    ⟨"RX_TIMEOUT", 0x200, 0xF00⟩,
    ⟨"RX_IOFAIL", 0x300, 0xF00⟩,
    ⟨"OPEN_OK", 0x401, 0xF01⟩,
    ⟨"OPEN_FAIL", 0x400, 0xF01⟩,
    ⟨"CLOSE", 0x500, 0xF00⟩,
    ⟨"START", 0x600, 0xF00⟩,
    ⟨"STOP", 0x700, 0xF00⟩,
    ⟨"RESERVED_0", 0x000, 0xF00⟩,
    ⟨"RESERVED_8_F", 0x800, 0x800⟩ ]

/-- A word is of a row when its bits under the row's mask are the row's pattern (R88). -/
def rowMatches (r : OpcodeRow) (ev : EventWord) : Bool := (ev &&& r.mask) == r.pat

end Sys2Proof
end

