-- ==== Sys2Proof/WellFormed.lean ====
section
/-!
DEFINITION. The checks on syntax. Parameters outside R6 and R7 are refused (items U3 and U4 of
93_implementation_defined.md). Every term of `Instr` is a legal event, since the types hold the operand
widths and every 12-bit word is an event (R79); the one check on an event is R78's, that the bits the
hardware ignores were written as 0.
-/

namespace Sys2Proof

/-- `1 <= N <= 65535` (R6). -/
def Params.nInRange (p : Params) : Bool := 1 ≤ p.n && p.n ≤ 65535

/-- `MARKER` has exactly 37 bytes (R7). -/
def Params.markerLength (p : Params) : Bool := p.marker.length == 37

/-- `MARKER[36] = 0x0A` (R7 (a)). -/
def Params.markerEndsInLf (p : Params) : Bool := p.marker[36]? == some LF

/-- `MARKER[k] != 0x0A` for every `k` in `0..35` (R7 (b)). -/
def Params.markerHasNoInnerLf (p : Params) : Bool := (p.marker.take 36).all (· != LF)

/-- The parameters are ones FSYNC can be built with (R6, R7). -/
def Params.wf (p : Params) : Bool :=
  p.nInRange && p.markerLength && p.markerEndsInLf && p.markerHasNoInnerLf

/-- The event as an encoder should write it, with every ignored bit 0 (R78). -/
def Instr.ignoredBitsZero : Instr → Bool
  | .rxByte _ => true
  | .rxTimeout x => x == 0
  | .rxIofail x => x == 0
  | .openOk x => x == 0
  | .openFail x => x == 0
  | .close x => x == 0
  | .start x => x == 0
  | .stop x => x == 0
  | .reserved0 x => x == 0
  | .reserved8F _ x => x == 0

end Sys2Proof
end

