-- ==== Sys2Proof/Machine/Port.lean ====
section
/-!
DEFINITION. The event port and the reset input (30_encoding.md R70; 60_exceptions.md R185;
70_reset_and_hazards.md R200, R201): what the next step takes, and how the environment presents an event.
-/

namespace Sys2Proof.Machine

/-- What a step takes from the environment: an event, in the state without it; the reset input; nothing. -/
inductive Taken where
  | event (i : Instr) (s : State)
  | reset (s : State)
  | nothing
deriving DecidableEq, Repr

/-- Take the next input: exactly one per step, in the order the environment gives (R70, R185). With reset
asserted, a same-step event is lost (R201). -/
def takeInput (s : State) : Taken :=
  match s.input with
  | [] => .nothing
  | .event ev :: rest => .event (decode ev) { s with input := rest }
  | .reset _ :: rest => .reset { s with input := rest }

/-- The environment presents the 12-bit word `w` as the next event, before the inputs already waiting; a
number that is no 12-bit word cannot be presented (R70). -/
def presentNext (s : State) (w : Nat) : State :=
  match decodeBits w with
  | .ok _ => { s with input := .event (BitVec.ofNat 12 w) :: s.input }
  | .error _ => s

/-- The environment will present these event words, in this order, after the inputs already waiting (R18). -/
def deliver (evs : List EventWord) (s : State) : State :=
  { s with input := s.input ++ evs.map .event }

end Sys2Proof.Machine
end

