-- ==== Sys2Proof/Machine/Step.lean ====
section
/-!
DEFINITION. One step of FSYNC: it reacts to one input (00_scope.md R17, R18; 20_memory.md R59).
-/

namespace Sys2Proof.Machine

/-- One step: the event at the port runs, or the reset input acts (R200); with nothing presented there is
no step (R195). Parameters FSYNC cannot be built with are refused (R6, R7). -/
def step (s : State) : Host.Outcome State Fault Refusal :=
  if s.cfg.wf then
    match takeInput s with
    | .event i t => exec i t
    | .reset t => .next (resetInput t)
    | .nothing => .refused .noEvent
  else .refused .illFormedParams

/-- `s` with the event word `w` as the one the next step takes (log entry 2). The table's number of bits
plays no part: an event is 12 bits (R70). -/
def State.withFetchWord (s : State) (_nbits w : Nat) : State := presentNext s w

end Sys2Proof.Machine
end

