-- ==== Sys2Proof/Machine/Wire.lean ====
section
/-!
DEFINITION. The wire format of a frame (30_encoding.md R65 to R68) in both directions: the bytes that carry a
frame, and the frame that body bytes carry.
-/

namespace Sys2Proof.Machine

/-- A sample's two bytes, low byte first (R67). -/
def sampleBytes (v : U16) : List Byte := [v.extractLsb' 0 8, v.extractLsb' 8 8]

/-- The timing value's four bytes, low byte first (R68). -/
def timingBytes (t : U32) : List Byte :=
  [t.extractLsb' 0 8, t.extractLsb' 8 8, t.extractLsb' 16 8, t.extractLsb' 24 8]

/-- A frame's body: payload, delimiter 1, timing, delimiter 2 (R65, R86 `body`). -/
def bodyBytes (vs : List U16) (t : U32) (d1 d2 : Byte) : List Byte :=
  vs.flatMap sampleBytes ++ (d1 :: (timingBytes t ++ [d2]))

/-- A whole frame: the Marker, then the body (R65, R86 `frame`). -/
def frameBytes (p : Params) (vs : List U16) (t : U32) (d1 d2 : Byte) : List Byte :=
  p.marker ++ bodyBytes vs t d1 d2

/-- Sample `i` of a body: byte `2i` is bits [7:0], byte `2i+1` bits [15:8] (R67). -/
def wireSample (body : List Byte) (i : Nat) : U16 :=
  BitVec.ofNat 16 ((body.getD (2 * i) 0).toNat + 2 ^ 8 * (body.getD (2 * i + 1) 0).toNat)

/-- The `n` samples of a body, sample 0 first (R67). -/
def wireSamples (n : Nat) (body : List Byte) : List U16 := (List.range n).map (wireSample body)

/-- The timing value of a body: body byte `2N+1+k` is bits `[8k+7 : 8k]` (R68). -/
def wireTiming (n : Nat) (body : List Byte) : U32 :=
  BitVec.ofNat 32 ((body.getD (2 * n + 1) 0).toNat + 2 ^ 8 * (body.getD (2 * n + 2) 0).toNat
    + 2 ^ 16 * (body.getD (2 * n + 3) 0).toNat + 2 ^ 24 * (body.getD (2 * n + 4) 0).toNat)

end Sys2Proof.Machine
end

