-- ==== Sys2Proof/Machine/Script.lean ====
section
/-!
DEFINITION. The script syntax of 30_encoding.md R85 to R87: one event or pseudo-instruction per line, read
from characters, and the event words it stands for.
-/

namespace Sys2Proof.Machine

/-- A line of a script: R85's events, then R86's pseudo-instructions. -/
inductive ScriptLine where
  | byte (b : Byte)
  | timeout
  | iofail
  | openOk
  | openFail
  | close
  | start
  | stop
  | word (w : EventWord)
  | bytes (bs : List Byte)
  | text (bs : List Byte)
  | line (bs : List Byte)
  | marker
  | body (vs : List U16) (t : U32) (d1 d2 : Byte)
  | frame (vs : List U16) (t : U32) (d1 d2 : Byte)
deriving DecidableEq, Repr

/-- Why a line of a script is refused. -/
inductive ScriptError where
  /-- No line of R85's or R86's tables has this shape. -/
  | unknownLine
  /-- A number is not decimal or `0x` hexadecimal, or does not fit its field. -/
  | badNumber
  /-- A string is not closed, or holds a character that is not ASCII. -/
  | badString
  /-- A body does not have `N` samples. -/
  | wrongSampleCount
deriving DecidableEq, Repr

/-- The words of bytes, each `0x100 | b` (R85, R86). -/
def byteWords (bs : List Byte) : List EventWord := bs.map (fun b => encode (.rxByte b))

/-- The event words a line stands for (R85, R86); a body must have `N` samples. -/
def ScriptLine.words (p : Params) : ScriptLine → Except ScriptError (List EventWord)
  | .byte b => .ok (byteWords [b])
  | .timeout => .ok [0x200]
  | .iofail => .ok [0x300]
  | .openOk => .ok [0x401]
  | .openFail => .ok [0x400]
  | .close => .ok [0x500]
  | .start => .ok [0x600]
  | .stop => .ok [0x700]
  | .word w => .ok [w]
  | .bytes bs => .ok (byteWords bs)
  | .text bs => .ok (byteWords bs)
  | .line bs => .ok (byteWords (bs ++ [LF]))
  | .marker => .ok (byteWords p.marker)
  | .body vs t d1 d2 =>
    if vs.length = p.n then .ok (byteWords (bodyBytes vs t d1 d2)) else .error .wrongSampleCount
  | .frame vs t d1 d2 =>
    if vs.length = p.n then .ok (byteWords (frameBytes p vs t d1 d2)) else .error .wrongSampleCount

/-- Split a list at every element that `sep` picks. -/
def splitAtAll {α : Type} (sep : α → Bool) : List α → List (List α)
  | [] => [[]]
  | c :: cs =>
    match sep c, splitAtAll sep cs with
    | true, ws => [] :: ws
    | false, [] => [[c]]
    | false, w :: ws => (c :: w) :: ws

/-- A blank between words. -/
def isBlank (c : Char) : Bool := c == ' ' || c == '\t' || c == '\r'

/-- The words of a line. -/
def lineWords (cs : List Char) : List (List Char) :=
  (splitAtAll isBlank cs).filter (fun w => !w.isEmpty)

/-- A line without its comment; a `;` inside a string begins none (R85). -/
def stripComment (inString : Bool) : List Char → List Char
  | [] => []
  | c :: cs =>
    if c == ';' && !inString then []
    else c :: stripComment (if c == '"' then !inString else inString) cs

/-- The value of a digit below `base`. -/
def digitValue (base : Nat) (c : Char) : Option Nat :=
  let v := if '0' ≤ c ∧ c ≤ '9' then some (c.toNat - '0'.toNat)
    else if 'a' ≤ c ∧ c ≤ 'f' then some (c.toNat - 'a'.toNat + 10) else none
  v.filter (· < base)

/-- The value of digits, most significant first, after `acc`. -/
def digitsValue (base : Nat) (acc : Nat) : List Char → Option Nat
  | [] => some acc
  | c :: cs => (digitValue base c).bind (fun v => digitsValue base (acc * base + v) cs)

/-- A number of `w` bits: hexadecimal with `0x`, else decimal (R85). -/
def number (w : Nat) (cs : List Char) : Except ScriptError (BitVec w) :=
  let v := match cs with
    | [] => none
    | ['0', 'x'] => none
    | '0' :: 'x' :: ds => digitsValue 16 0 ds
    | ds => digitsValue 10 0 ds
  match v with
  | some k => if k < 2 ^ w then .ok (BitVec.ofNat w k) else .error .badNumber
  | none => .error .badNumber

/-- Numbers of `w` bits. -/
def numbers (w : Nat) : List (List Char) → Except ScriptError (List (BitVec w))
  | [] => .ok []
  | c :: cs =>
    match number w c, numbers w cs with
    | .ok v, .ok vs => .ok (v :: vs)
    | .error e, _ => .error e
    | _, .error e => .error e

/-- The bytes of a string's characters up to its closing quote, with what follows it (R86): the escapes for
LF and CR, every other character its ASCII code. -/
def stringBytes : List Char → Except ScriptError (List Byte × List Char)
  | [] => .error .badString
  | '"' :: rest => .ok ([], rest)
  | '\\' :: 'n' :: cs => (stringBytes cs).map (fun r => (LF :: r.1, r.2))
  | '\\' :: 'r' :: cs => (stringBytes cs).map (fun r => (CR :: r.1, r.2))
  | c :: cs =>
    if c.toNat < 128 then (stringBytes cs).map (fun r => (BitVec.ofNat 8 c.toNat :: r.1, r.2))
    else .error .badString

/-- The string operand of `text` and `line`; the empty string is accepted (DESIGN CHOICE, safe, log entry 13). -/
def stringOperand (cs : List Char) : Except ScriptError (List Byte) :=
  match cs.dropWhile isBlank with
  | '"' :: rest =>
    match stringBytes rest with
    | .ok (bs, after) => if after.all isBlank then .ok bs else .error .badString
    | .error e => .error e
  | _ => .error .badString

/-- The operands of `body` and `frame`: samples, timing and delimiters, set apart by `/`. -/
def frameOperands (ws : List (List Char)) : Except ScriptError (List U16 × U32 × Byte × Byte) :=
  match splitAtAll (· == ['/']) ws with
  | [vs, [t], [d1, d2]] =>
    match numbers 16 vs, number 32 t, number 8 d1, number 8 d2 with
    | .ok vs, .ok t, .ok d1, .ok d2 => .ok (vs, t, d1, d2)
    | _, _, _, _ => .error .badNumber
  | _ => .error .unknownLine

/-- A line whose first word, in lower case, is `m`; `ws` are its other words in lower case, `rest` its
characters after the first word. DESIGN CHOICE, safe (log entry 13): a `bytes` line with no operand is accepted and
stands for no event; R86 writes `bytes b0 b1 ... bk` and states no least number. -/
def parseOperands (m : List Char) (ws : List (List Char)) (rest : List Char) :
    Except ScriptError ScriptLine :=
  if m = ['b', 'y', 't', 'e'] then
    match ws with
    | [w] => (number 8 w).map .byte
    | _ => .error .unknownLine
  else if m = ['b', 'y', 't', 'e', 's'] then (numbers 8 ws).map .bytes
  else if m = ['.', 'w', 'o', 'r', 'd'] then
    match ws with
    | [w] => (number 12 w).map .word
    | _ => .error .unknownLine
  else if m = ['o', 'p', 'e', 'n'] then
    if ws = [['o', 'k']] then .ok .openOk
    else if ws = [['f', 'a', 'i', 'l']] then .ok .openFail
    else .error .unknownLine
  else if m = ['t', 'e', 'x', 't'] then (stringOperand rest).map .text
  else if m = ['l', 'i', 'n', 'e'] then (stringOperand rest).map .line
  else if m = ['b', 'o', 'd', 'y'] then (frameOperands ws).map (fun r => .body r.1 r.2.1 r.2.2.1 r.2.2.2)
  else if m = ['f', 'r', 'a', 'm', 'e'] then (frameOperands ws).map (fun r => .frame r.1 r.2.1 r.2.2.1 r.2.2.2)
  else if ws ≠ [] then .error .unknownLine
  else if m = ['t', 'i', 'm', 'e', 'o', 'u', 't'] then .ok .timeout
  else if m = ['i', 'o', 'f', 'a', 'i', 'l'] then .ok .iofail
  else if m = ['c', 'l', 'o', 's', 'e'] then .ok .close
  else if m = ['s', 't', 'a', 'r', 't'] then .ok .start
  else if m = ['s', 't', 'o', 'p'] then .ok .stop
  else if m = ['m', 'a', 'r', 'k', 'e', 'r'] then .ok .marker
  else .error .unknownLine

/-- A line of a script, none where it is blank or a comment (R85: case-insensitive, but for strings). -/
def parseLine (cs : List Char) : Except ScriptError (Option ScriptLine) :=
  let code := (stripComment false cs).dropWhile isBlank
  let lower := fun w : List Char => w.map Char.toLower
  match lineWords code with
  | [] => .ok none
  | m :: ws => (parseOperands (lower m) (ws.map lower) (code.drop m.length)).map some

/-- The event words of lines, in order. -/
def assembleLines (p : Params) : List (List Char) → Except ScriptError (List EventWord)
  | [] => .ok []
  | l :: ls =>
    match parseLine l, assembleLines p ls with
    | .ok none, r => r
    | .ok (some i), .ok ws => (i.words p).map (· ++ ws)
    | .error e, _ => .error e
    | _, .error e => .error e

/-- The event words of a script (R85, R86). -/
def assemble (p : Params) (script : List Char) : Except ScriptError (List EventWord) :=
  assembleLines p (splitAtAll (· == '\n') script)

end Sys2Proof.Machine
end

