-- ==== Sys2Proof/Safety.lean ====
section
/-!
DEFINITION. What claims about FSYNC are stated in: runs of events, reachable states, the invariants of
10_state.md R35 and those of the fields' ranges, which command is rejected (R31, R170), and which
transitions of `loop` exist (R155).
-/

namespace Sys2Proof.Machine

/-- Run events in order, stopping at the first fault or refusal; a byte that meets `rx_ready = 0` is
refused and not skipped (R87). -/
def execAll : List Instr → State → Outcome
  | [], s => .next s
  | i :: is, s =>
    match exec i s with
    | .next t => execAll is t
    | .fault r => .fault r
    | .refused r => .refused r

/-- Deliver bytes in order (R46). -/
def receive (bs : List Byte) (s : State) : Outcome := execAll (bs.map .rxByte) s

/-- Deliver bytes until `loop` becomes READING: the bytes after the one that made it so, none if none did. -/
def receiveUntilReading (s : State) : List Byte → Option (List Byte)
  | [] => none
  | b :: bs =>
    match exec (.rxByte b) s with
    | .next t => if t.loop = .reading then some bs else receiveUntilReading t bs
    | .fault _ => none
    | .refused _ => none

/-- The states a run reaches from reset, whatever inputs the environment presents (R18, R185). -/
inductive Reachable (p : Params) : State → Prop
  | reset (inputs : List Input) : Reachable p { State.resetWith p with input := inputs }
  | step {s t : State} : Reachable p s → Machine.step s = .next t → Reachable p t

/-- How many FB bytes the current body has stored when `rd_cnt = c`: the payload bytes passed and the timing
bytes passed (R120, R129). -/
def bytesStored (n c : Nat) : Nat := min c (2 * n) + (c - (2 * n + 1))

/-- R35's clauses 1 to 7, by number. Clause 8 is no invariant: see `Obligations.OpenWhileEndedBreaksClauseEight` and log entry 5. -/
structure SequencerInv (s : State) : Prop where
  runningOpen     : s.loop.running = true → s.conn = .opened
  rdCntZero       : s.loop ≠ .reading → s.rdCnt = 0
  scannerClear    : s.loop ≠ .syncing → s.lineLen = 0 ∧ s.lineMatch = true
  stopInReading   : s.stopPending = true → s.loop = .reading
  matchBound      : s.lineMatch = true → s.lineLen ≤ 36
  loopHeld        : s.loop.held = true
  rdCntBound      : s.loop = .reading → s.rdCnt ≤ 2 * s.cfg.n + 5

/-- The ranges of the counters (R25, R28), FB's canonical form and range (R27), what FB holds while a body is
read (R129), and `last_error` while running (R160, R165). -/
structure DataInv (s : State) : Prop where
  lineLenBound    : s.lineLen ≤ 37
  rdCntRange      : s.rdCnt ≤ 2 * s.cfg.n + 5
  fbWf            : Memory.wf (fbLen s.cfg.n) s.fb
  fbWritten       : s.loop = .reading →
    ∀ a, a < bytesStored s.cfg.n s.rdCnt → (Memory.lookup s.fb a).isSome = true
  noErrorRunning  : s.loop.running = true → s.lastError = .none

/-- Every invariant the model claims. -/
structure Inv (s : State) : Prop where
  params    : s.cfg.wf = true
  sequencer : SequencerInv s
  data      : DataInv s

/-- R35's clause 8, which R91 breaks: in STOPPED or TERMINATED the connection is CLOSED. -/
def ClosedWhenEnded (s : State) : Prop :=
  s.loop = .stopped ∨ s.loop = .terminated → s.conn = .closed

/-- *Command* events: OPEN, CLOSE, START, STOP and the reserved kinds (R31, R71). -/
def isCommand : Instr → Bool
  | .rxByte _ | .rxTimeout _ | .rxIofail _ => false
  | .openOk _ | .openFail _ | .close _ | .start _ | .stop _ | .reserved0 _ | .reserved8F _ _ => true

/-- The commands FSYNC rejects in a state: OPEN when open (R93), CLOSE while running (R95), START when
closed or running (R161), every reserved kind (R77), listed in R170. -/
def isRejectedIn (s : State) : Instr → Bool
  | .openOk _ | .openFail _ => s.conn == .opened
  | .close _ => s.loop.running
  | .start _ => s.conn == .closed || s.loop.running
  | .reserved0 _ | .reserved8F _ _ => true
  | .stop _ | .rxByte _ | .rxTimeout _ | .rxIofail _ => false

/-- The rows of R155's table: event `i` in state `s` takes `loop` to the given value. -/
inductive LoopTransition (s : State) : Instr → Loop → Prop
  | start (x) : s.loop = .idle ∨ s.loop = .stopped ∨ s.loop = .terminated → s.conn = .opened →
      LoopTransition s (.start x) .syncing
  | markerFound : s.loop = .syncing → s.lineMatch = true → s.lineLen = 36 →
      LoopTransition s (.rxByte LF) .reading
  | scanning (b) : s.loop = .syncing → ¬(b = LF ∧ s.lineMatch = true ∧ s.lineLen = 36) →
      LoopTransition s (.rxByte b) .syncing
  | bodyByte (b) : s.loop = .reading → s.rdCnt < 2 * s.cfg.n + 5 → LoopTransition s (.rxByte b) .reading
  | frameDone (b) : s.loop = .reading → s.rdCnt = 2 * s.cfg.n + 5 → s.stopPending = false →
      LoopTransition s (.rxByte b) .syncing
  | frameDoneStop (b) : s.loop = .reading → s.rdCnt = 2 * s.cfg.n + 5 → s.stopPending = true →
      LoopTransition s (.rxByte b) .stopped
  | stop (x) : s.loop = .syncing → LoopTransition s (.stop x) .stopped
  | timeout (x) : s.loop.running = true → LoopTransition s (.rxTimeout x) .terminated
  | ioFailure (x) : s.loop.running = true → LoopTransition s (.rxIofail x) .terminated

end Sys2Proof.Machine
end

