-- ==== Sys2Proof/Certificates/Slice0/Obligations.lean ====
section
/-!
DEFINITION. The statements for the provers. Each docstring names the rule of spec/ it formalises. A premise
`s.loop.held = true` rules out the values 5, 6 and 7 of `loop`, which no reachable state holds (R23) and
which `NeverHeldLoopFaults` covers.
-/

open Sys2Proof
open Sys2Proof.Machine

/-! ## Encoding -/

/-- Decode and encode agree on every event and on every 12-bit word (30_encoding.md section 2). -/
def Obligations.DecodeEncodeAreInverse : Prop :=
  (∀ i : Instr, decode (encode i) = i) ∧ ∀ ev : EventWord, encode (decode ev) = ev

/-- R79, over R88's table in match and mask form: a word is of the row its event belongs to and of no
other, and the row depends on `EV[11:8]` and, for kind 4 (OPEN), `EV[0]`. -/
def Obligations.EveryWordIsOfExactlyOneRow : Prop :=
  (∀ ev : EventWord, ∃ r ∈ opcodeRows, rowMatches r ev = true ∧ (decode ev).mnemonic = r.mnemonic ∧
    ∀ r' ∈ opcodeRows, rowMatches r' ev = true → r' = r) ∧
  ∀ ev ev' : EventWord, evKind ev = evKind ev' → (evKind ev = 4 → ev.getLsbD 0 = ev'.getLsbD 0) →
    (decode ev).mnemonic = (decode ev').mnemonic

/-- Words of 95_test_vectors.md, one per row of the table, decode to the events they stand for. -/
def Obligations.WordsOfTheVectorsDecode : Prop :=
  decode 0x10A = .rxByte 0x0A ∧ decode 0x200 = .rxTimeout 0 ∧ decode 0x300 = .rxIofail 0 ∧
  decode 0x4FF = .openOk 0x7F ∧ decode 0x4FE = .openFail 0x7F ∧ decode 0x500 = .close 0 ∧
  decode 0x600 = .start 0 ∧ decode 0x700 = .stop 0 ∧ decode 0x000 = .reserved0 0 ∧
  decode 0xF55 = .reserved8F 7 0x55

/-- R73, R74, R75, R78: two words that differ only in ignored data bits give the same step in every state. -/
def Obligations.IgnoredDataBitsGiveTheSameStep : Prop :=
  ∀ (ev ev' : EventWord) (s : State), evKind ev = evKind ev' → evKind ev ≠ 1 →
    (evKind ev = 4 → ev.getLsbD 0 = ev'.getLsbD 0) → exec (decode ev) s = exec (decode ev') s

/-! ## The step -/

/-- R70: with a word at the port, a step runs its event in the state without that word. -/
def Obligations.StepRunsTheDecodedEvent : Prop :=
  ∀ (s : State) (ev : EventWord) (i : Instr) (rest : List Input), s.cfg.wf = true →
    s.input = .event ev :: rest → decode ev = i → step s = exec i { s with input := rest }

/-- What a step answers when nothing is presented (R195) and when FSYNC cannot be built (R6, R7; U3, U4): the
model's own refusals (log entries 2 and 6). -/
def Obligations.StepRefusesWithoutEventOrParams : Prop :=
  (∀ s : State, s.cfg.wf = true → s.input = [] → step s = .refused .noEvent) ∧
  ∀ s : State, s.cfg.wf = false → step s = .refused .illFormedParams

/-- R59, R70: `k` steps over `k` presented words run their events one after another, in order. -/
def Obligations.StepsRunTheDeliveredEventsInOrder : Prop :=
  ∀ (s : State) (evs : List EventWord), s.cfg.wf = true → s.input = [] →
    core.run evs.length (deliver evs s) = execAll (evs.map decode) s

/-- R76: RX_BYTE has no step while `rx_ready = 0`; it has one in every state of a run while `rx_ready = 1`;
every other event has a step in every state whose `loop` is held. -/
def Obligations.OnlyAByteWhileNotReadyHasNoStep : Prop :=
  (∀ (b : Byte) (s : State), s.loop.held = true → rxReady s = false →
    exec (.rxByte b) s = .refused .rxNotReady) ∧
  (∀ (b : Byte) (s : State), rxReady s = true → s.rdCnt ≤ 2 * s.cfg.n + 5 →
    ∃ t, exec (.rxByte b) s = .next t) ∧
  ∀ (i : Instr) (s : State), s.loop.held = true → (∀ b, i ≠ .rxByte b) → ∃ t, exec i s = .next t

/-- Item U12: an event that finds `loop` at 5, 6 or 7 faults; R14 with R120: RX_BYTE in READING above
`rd_cnt = 2N+5` matches no rule and faults. The faults are the model's choice (log entry 7). -/
def Obligations.NeverHeldLoopFaults : Prop :=
  (∀ (i : Instr) (s : State), s.loop.held = false → exec i s = .fault .loopNeverHeld) ∧
  ∀ (b : Byte) (s : State), s.loop = .reading → 2 * s.cfg.n + 5 < s.rdCnt →
    exec (.rxByte b) s = .fault .rdCntOutOfRange

/-! ## Reset -/

/-- R39: the values after reset, for all parameters: every field of its table that has one, STATUS `0x00` and
rx_ready 0. FB is unspecified there, so nothing is said of it. -/
def Obligations.ResetValues : Prop :=
  ∀ p : Params,
    (State.resetWith p).loop = .idle ∧ (State.resetWith p).conn = .closed ∧
    (State.resetWith p).lineLen = 0 ∧ (State.resetWith p).lineMatch = true ∧ (State.resetWith p).rdCnt = 0 ∧
    (State.resetWith p).stopPending = false ∧ (State.resetWith p).lastError = .none ∧
    (State.resetWith p).cmdError = false ∧ statusWord (State.resetWith p) = 0x00 ∧
    rxReady (State.resetWith p) = false

/-- R200, R201, with the parameters as R202 says: in every state the reset input takes a step to R39's values,
the trace starts empty, the parameters stay, and the event that arrives with it has no effect and is gone.
FB is unspecified, so nothing is said of it. -/
def Obligations.ResetInputActsInEveryState : Prop :=
  ∀ (s : State) (lost : Option EventWord) (rest : List Input), s.cfg.wf = true →
    s.input = .reset lost :: rest →
    ∃ t, step s = .next t ∧ t.loop = .idle ∧ t.conn = .closed ∧ t.lineLen = 0 ∧ t.lineMatch = true ∧
      t.rdCnt = 0 ∧ t.stopPending = false ∧ t.lastError = .none ∧ t.cmdError = false ∧ t.trace = [] ∧
      t.cfg = s.cfg ∧ t.input = rest

/-! ## Byte source commands -/

/-- R91. -/
def Obligations.OpenOkOpensAClosedConnection : Prop :=
  ∀ (x : BitVec 7) (s : State), s.loop.held = true → s.conn = .closed →
    exec (.openOk x) s = .next { s with conn := .opened, cmdError := false }

/-- R92, R176. -/
def Obligations.OpenFailRecordsPortUnavailable : Prop :=
  ∀ (x : BitVec 7) (s : State), s.loop.held = true → s.conn = .closed →
    exec (.openFail x) s = .next { s with lastError := .portUnavailable, cmdError := false }

/-- R93, for both answers. -/
def Obligations.OpenWhenOpenIsRejected : Prop :=
  ∀ (x : BitVec 7) (s : State), s.loop.held = true → s.conn = .opened →
    exec (.openOk x) s = .next { s with cmdError := true } ∧
    exec (.openFail x) s = .next { s with cmdError := true }

/-- R94. -/
def Obligations.CloseWhenNotRunning : Prop :=
  ∀ (x : BitVec 8) (s : State), s.loop = .idle ∨ s.loop = .stopped ∨ s.loop = .terminated →
    (s.conn = .opened → exec (.close x) s =
      .next { s with conn := .closed, cmdError := false, trace := s.trace ++ [.closeReq] }) ∧
    (s.conn = .closed → exec (.close x) s = .next { s with cmdError := false })

/-- R95. -/
def Obligations.CloseWhileRunningIsRejected : Prop :=
  ∀ (x : BitVec 8) (s : State), s.loop = .syncing ∨ s.loop = .reading →
    exec (.close x) s = .next { s with cmdError := true }

/-! ## Frame Synchronizer -/

/-- R106. -/
def Obligations.SyncingByteAdvancesTheScan : Prop :=
  ∀ (b : Byte) (s : State), s.loop = .syncing → b ≠ 0x0A →
    exec (.rxByte b) s = .next { s with
      lineMatch := decide (s.lineMatch = true ∧ s.lineLen < 36 ∧ s.cfg.marker[s.lineLen]? = some b)
      lineLen := min (s.lineLen + 1) 37 }

/-- R107. -/
def Obligations.SyncingLfEndsTheLine : Prop :=
  ∀ s : State, s.loop = .syncing →
    (s.lineMatch = true ∧ s.lineLen = 36 → exec (.rxByte 0x0A) s =
      .next { s with loop := .reading, rdCnt := 0, lineLen := 0, lineMatch := true }) ∧
    (¬(s.lineMatch = true ∧ s.lineLen = 36) → exec (.rxByte 0x0A) s =
      .next { s with lineLen := 0, lineMatch := true })

/-- R25, R26: after the bytes of a line before its LF, `line_len` counts them up to 37 and `line_match` is 1
exactly when each equals the MARKER byte at its position and there are at most 36; nothing else changed. -/
def Obligations.ScannerHoldsTheLineSoFar : Prop :=
  ∀ (seen : List Byte) (s : State), s.loop = .syncing → s.lineLen = 0 →
    s.lineMatch = true → LF ∉ seen →
    receive seen s = .next { s with
      lineLen := min seen.length 37
      lineMatch := decide (seen.length ≤ 36 ∧ ∀ k, k < seen.length → seen[k]? = s.cfg.marker[k]?) }

/-- R108: from a line start, on any bytes, `loop` becomes READING exactly where the reference algorithm of
R105 finds the first line that equals the Marker. -/
def Obligations.ScannerAgreesWithLineComparison : Prop :=
  ∀ (bs : List Byte) (s : State), s.cfg.wf = true → s.loop = .syncing → s.lineLen = 0 →
    s.lineMatch = true → receiveUntilReading s bs = referenceSync s.cfg.marker [] bs

/-! ## Frame Reader -/

/-- R121: the payload byte is stored at `rd_cnt`; every other byte of FB and every other field but rd_cnt
is unchanged. -/
def Obligations.PayloadByteIsStored : Prop :=
  ∀ (b : Byte) (s : State), s.loop = .reading → s.rdCnt < 2 * s.cfg.n →
    ∃ t, exec (.rxByte b) s = .next t ∧ fbByte t s.rdCnt = b ∧
      (∀ a, a ≠ s.rdCnt → fbByte t a = fbByte s a) ∧ t = { s with fb := t.fb, rdCnt := s.rdCnt + 1 }

/-- R122: delimiter 1 is consumed; FB is unchanged. -/
def Obligations.DelimiterOneIsConsumed : Prop :=
  ∀ (b : Byte) (s : State), s.loop = .reading → s.rdCnt = 2 * s.cfg.n →
    exec (.rxByte b) s = .next { s with rdCnt := s.rdCnt + 1 }

/-- R123: the timing byte is stored at `rd_cnt - 1`, `FB[2N] .. FB[2N+3]`; nothing else but rd_cnt changes. -/
def Obligations.TimingByteIsStored : Prop :=
  ∀ (b : Byte) (s : State), s.loop = .reading → 2 * s.cfg.n + 1 ≤ s.rdCnt → s.rdCnt ≤ 2 * s.cfg.n + 4 →
    ∃ t, exec (.rxByte b) s = .next t ∧ fbByte t (2 * s.cfg.n + (s.rdCnt - 2 * s.cfg.n - 1)) = b ∧
      (∀ a, a ≠ 2 * s.cfg.n + (s.rdCnt - 2 * s.cfg.n - 1) → fbByte t a = fbByte s a) ∧
      t = { s with fb := t.fb, rdCnt := s.rdCnt + 1 }

/-- R125: delimiter 2 emits the decoded frame; then the loop scans on, or a pending stop takes effect. -/
def Obligations.DelimiterTwoCompletesTheFrame : Prop :=
  ∀ (b : Byte) (s : State), s.loop = .reading → s.rdCnt = 2 * s.cfg.n + 5 →
    (s.stopPending = false → exec (.rxByte b) s = .next { s with
      trace := s.trace ++ [.frame (samples s) (timing s)]
      rdCnt := 0, lineLen := 0, lineMatch := true, loop := .syncing }) ∧
    (s.stopPending = true → exec (.rxByte b) s = .next { s with
      trace := s.trace ++ [.frame (samples s) (timing s), .closeReq, .ended .stopped]
      rdCnt := 0, lineLen := 0, lineMatch := true, conn := .closed, loop := .stopped, stopPending := false })

/-- R126: at both delimiter positions every byte gives the same step. -/
def Obligations.DelimitersAreNotValidated : Prop :=
  ∀ (b b' : Byte) (s : State), s.loop = .reading → s.rdCnt = 2 * s.cfg.n ∨ s.rdCnt = 2 * s.cfg.n + 5 →
    exec (.rxByte b) s = exec (.rxByte b') s

/-- R46, R129, R131, R133: whatever FB held and whatever the `2N+6` bytes after the Marker are, the frame
emitted is decoded from exactly those bytes at their wire positions, and from nothing else. -/
def Obligations.BodyEmitsTheFrameOfItsBytes : Prop :=
  ∀ (body : List Byte) (s : State), s.loop = .reading → s.rdCnt = 0 →
    body.length = bodyLen s.cfg.n → s.stopPending = false →
    ∃ t, receive body s = .next t ∧ t.loop = .syncing ∧ t.lineLen = 0 ∧ t.lineMatch = true ∧ t.rdCnt = 0 ∧
      t.trace = s.trace ++ [.frame (wireSamples s.cfg.n body) (wireTiming s.cfg.n body)]

/-- R144, last sentence: from SYNCING at a line start, the wire bytes of a frame emit exactly that frame,
for any delimiters; the machine is back at a line start. -/
def Obligations.FrameOnTheWireIsEmitted : Prop :=
  ∀ (vs : List U16) (tv : U32) (d1 d2 : Byte) (s : State), s.cfg.wf = true → s.loop = .syncing →
    s.lineLen = 0 → s.lineMatch = true → s.stopPending = false → vs.length = s.cfg.n →
    ∃ t, receive (frameBytes s.cfg vs tv d1 d2) s = .next t ∧ t.trace = s.trace ++ [.frame vs tv] ∧
      t.loop = .syncing ∧ t.lineLen = 0 ∧ t.lineMatch = true

/-- R130, R183: a timeout or failure after fewer than `2N+6` body bytes ends the loop with no FRAME. -/
def Obligations.FailureInsideABodyEmitsNoFrame : Prop :=
  ∀ (bs : List Byte) (x : BitVec 8) (s : State), s.loop = .reading → s.rdCnt = 0 →
    bs.length < bodyLen s.cfg.n →
    (∃ t, execAll (bs.map .rxByte ++ [.rxTimeout x]) s = .next t ∧ t.loop = .terminated ∧
      t.trace = s.trace ++ [.closeReq, .ended .timeout]) ∧
    ∃ t, execAll (bs.map .rxByte ++ [.rxIofail x]) s = .next t ∧ t.loop = .terminated ∧
      t.trace = s.trace ++ [.closeReq, .ended .ioFailure]

/-- R47: FB's contents before a body cannot reach any output: two states that differ only there emit the
same events and end in the same STATUS on the same body. -/
def Obligations.EarlierBytesOfFbNeverReachAnOutput : Prop :=
  ∀ (body : List Byte) (m : Memory) (d : Nat) (s : State), s.loop = .reading → s.rdCnt = 0 →
    body.length = bodyLen s.cfg.n →
    ∃ t u, receive body s = .next t ∧ receive body { s with fb := m, fbDraw := d } = .next u ∧
      t.trace = u.trace ∧ statusWord t = statusWord u

/-! ## Memory and Frame Decoder -/

/-- R48: `MemRead(a, n)` is the sum of the bytes, the one at the lowest address least significant. -/
def Obligations.MemReadIsLittleEndian : Prop :=
  ∀ (s : State) (a n : Nat),
    memRead s a n = ((List.range n).map (fun k => (fbByte s (a + k)).toNat <<< (8 * k))).sum

/-- R140. -/
def Obligations.SampleUnpacksTwoBytes : Prop :=
  ∀ (s : State) (i : Nat),
    sample s i = (fbByte s (2 * i)).setWidth 16 ||| ((fbByte s (2 * i + 1)).setWidth 16 <<< 8)

/-- R141. -/
def Obligations.TimingUnpacksFourBytes : Prop :=
  ∀ s : State,
    timing s = (fbByte s (2 * s.cfg.n)).setWidth 32 |||
      ((fbByte s (2 * s.cfg.n + 1)).setWidth 32 <<< 8) |||
      ((fbByte s (2 * s.cfg.n + 2)).setWidth 32 <<< 16) |||
      ((fbByte s (2 * s.cfg.n + 3)).setWidth 32 <<< 24)

/-- R143, R144: `Decode` gives `N` samples for every FB, two contents of FB decode alike only if they are
equal in all `2N+4` bytes, and R144's inverse gives the bytes back. -/
def Obligations.DecodeIsInvertible : Prop :=
  (∀ s : State, (samples s).length = s.cfg.n) ∧
  (∀ s u : State, u.cfg.n = s.cfg.n → samples s = samples u → timing s = timing u →
    ∀ a < fbLen s.cfg.n, fbByte s a = fbByte u a) ∧
  ∀ (s : State) (vs : List U16) (tv : U32), vs.length = s.cfg.n →
    (∀ i < s.cfg.n, fbByte s (2 * i) = (vs.getD i 0).extractLsb' 0 8 ∧
      fbByte s (2 * i + 1) = (vs.getD i 0).extractLsb' 8 8) →
    (∀ k < 4, fbByte s (2 * s.cfg.n + k) = tv.extractLsb' (8 * k) 8) →
    samples s = vs ∧ timing s = tv

/-- R27, R40, R56: the only byte of FB an event changes is the one RX_BYTE stores, at the address the body
position gives; every other event, and every RX_BYTE that stores none, leaves all of FB. -/
def Obligations.FbChangesOnlyAtTheStoredByte : Prop :=
  ∀ (i : Instr) (s t : State), exec i s = .next t →
    (∀ (b : Byte) (a : Nat), i = .rxByte b → fbStoreAddr s = some a →
      fbByte t a = b ∧ ∀ c, c ≠ a → fbByte t c = fbByte s c) ∧
    ((∀ b, i ≠ .rxByte b) ∨ fbStoreAddr s = none → ∀ c, fbByte t c = fbByte s c)

/-- The canonical form determines the memory (20_memory.md; log entry 4): equal reads, equal data. -/
def Obligations.CanonicalFbIsDeterminedByItsReads : Prop :=
  ∀ (len : Nat) (m m' : Memory), Memory.wf len m → Memory.wf len m' →
    (∀ a, Memory.lookup m a = Memory.lookup m' a) → m = m'

/-! ## Acquisition Loop -/

/-- R160. -/
def Obligations.StartBeginsALoop : Prop :=
  ∀ (x : BitVec 8) (s : State), s.conn = .opened →
    s.loop = .idle ∨ s.loop = .stopped ∨ s.loop = .terminated →
    exec (.start x) s = .next { s with
      trace := s.trace ++ [.flushReq]
      loop := .syncing, lineLen := 0, lineMatch := true, rdCnt := 0, stopPending := false
      lastError := .none, cmdError := false }

/-- R161. -/
def Obligations.StartWhenClosedOrRunningIsRejected : Prop :=
  ∀ (x : BitVec 8) (s : State), s.loop.held = true →
    s.conn = .closed ∨ s.loop = .syncing ∨ s.loop = .reading →
    exec (.start x) s = .next { s with cmdError := true }

/-- R164, R165. -/
def Obligations.StopInSyncingEndsTheLoop : Prop :=
  ∀ (x : BitVec 8) (s : State), s.loop = .syncing →
    exec (.stop x) s = .next { s with
      trace := s.trace ++ [.closeReq, .ended .stopped]
      conn := .closed, loop := .stopped, stopPending := false, lineLen := 0, lineMatch := true, rdCnt := 0
      cmdError := false }

/-- R166. -/
def Obligations.StopInReadingIsDeferred : Prop :=
  ∀ (x : BitVec 8) (s : State), s.loop = .reading →
    exec (.stop x) s = .next { s with stopPending := true, cmdError := false }

/-- R167. -/
def Obligations.StopWhenNotRunningIsAccepted : Prop :=
  ∀ (x : BitVec 8) (s : State), s.loop = .idle ∨ s.loop = .stopped ∨ s.loop = .terminated →
    exec (.stop x) s = .next { s with cmdError := false }

/-- R77. -/
def Obligations.ReservedKindsAreRejected : Prop :=
  ∀ (k : BitVec 3) (x : BitVec 8) (s : State), s.loop.held = true →
    exec (.reserved0 x) s = .next { s with cmdError := true } ∧
    exec (.reserved8F k x) s = .next { s with cmdError := true }

/-- R155: an event changes `loop` only along a row of the table, and every row's transition happens. -/
def Obligations.LoopMovesOnlyAlongTheTable : Prop :=
  (∀ (i : Instr) (s t : State), exec i s = .next t → t.loop ≠ s.loop → LoopTransition s i t.loop) ∧
  ∀ (i : Instr) (s : State) (l : Loop), LoopTransition s i l → ∃ t, exec i s = .next t ∧ t.loop = l

/-- R31: after a command `cmd_error` is 1 exactly when it was rejected; a stream event leaves it. -/
def Obligations.CmdErrorShowsWhetherTheLastCommandWasRejected : Prop :=
  ∀ (i : Instr) (s t : State), exec i s = .next t →
    t.cmdError = if isCommand i then isRejectedIn s i else s.cmdError

/-- R170: a rejected command changes `cmd_error` and no other field, and emits nothing. -/
def Obligations.RejectedCommandsChangeOnlyCmdError : Prop :=
  ∀ (i : Instr) (s : State), s.loop.held = true → isRejectedIn s i = true →
    exec i s = .next { s with cmdError := true }

/-- R171: a loop that has ended runs again only by START, with the connection open, and a closed connection
opens only by an OPEN that the byte source answered "opened". -/
def Obligations.NoAutomaticRestart : Prop :=
  ∀ (i : Instr) (s t : State), s.loop = .stopped ∨ s.loop = .terminated → exec i s = .next t →
    (t.loop = s.loop ∨ ((∃ x, i = .start x) ∧ s.conn = .opened ∧ t.loop = .syncing)) ∧
    (s.conn = .closed → t.conn = .opened → ∃ x, i = .openOk x)

/-- R172: STATUS[2:0] is SYNCING (1) while FSYNC waits for a Marker and STOPPED (3) or TERMINATED (4) after
the loop has ended, and in a run from reset the trace then holds an END event. -/
def Obligations.TerminationIsReportedApartFromWaiting : Prop :=
  ∀ (p : Params) (s : State), p.wf = true → Reachable p s →
    (s.loop = .syncing → (statusWord s).extractLsb' 0 3 = 1) ∧
    (s.loop = .stopped → (statusWord s).extractLsb' 0 3 = 3) ∧
    (s.loop = .terminated → (statusWord s).extractLsb' 0 3 = 4) ∧
    (s.loop = .stopped ∨ s.loop = .terminated → ∃ r, OutEvent.ended r ∈ s.trace)

/-! ## Errors -/

/-- R179, both branches: fatal termination (R181) while running; otherwise nothing changes. -/
def Obligations.TimeoutEndsARunningLoop : Prop :=
  ∀ (x : BitVec 8) (s : State),
    (s.loop = .syncing ∨ s.loop = .reading → exec (.rxTimeout x) s = .next { s with
      trace := s.trace ++ [.closeReq, .ended .timeout]
      lastError := .timeout, loop := .terminated, conn := .closed, stopPending := false, rdCnt := 0
      lineLen := 0, lineMatch := true }) ∧
    (s.loop = .idle ∨ s.loop = .stopped ∨ s.loop = .terminated → exec (.rxTimeout x) s = .next s)

/-- R180, both branches: fatal termination (R181) while running; otherwise nothing changes. -/
def Obligations.IoFailureEndsARunningLoop : Prop :=
  ∀ (x : BitVec 8) (s : State),
    (s.loop = .syncing ∨ s.loop = .reading → exec (.rxIofail x) s = .next { s with
      trace := s.trace ++ [.closeReq, .ended .ioFailure]
      lastError := .ioFailure, loop := .terminated, conn := .closed, stopPending := false, rdCnt := 0
      lineLen := 0, lineMatch := true }) ∧
    (s.loop = .idle ∨ s.loop = .stopped ∨ s.loop = .terminated → exec (.rxIofail x) s = .next s)

/-- R186: the outcomes of the orders that matter, at the last body byte and in READING. -/
def Obligations.OutcomesOfSimultaneousEvents : Prop :=
  (∀ (b : Byte) (x : BitVec 8) (s : State), s.loop = .reading → s.rdCnt = 2 * s.cfg.n + 5 →
    s.stopPending = false →
    ∃ t u, execAll [.stop x, .rxByte b] s = .next t ∧ execAll [.rxByte b, .stop x] s = .next u ∧
      t.trace = s.trace ++ [decodedFrame s, .closeReq, .ended .stopped] ∧ u.trace = t.trace) ∧
  (∀ (b : Byte) (x : BitVec 8) (s : State), s.loop = .reading → s.rdCnt = 2 * s.cfg.n + 5 →
    s.stopPending = false →
    (∃ t, exec (.rxTimeout x) s = .next t ∧ t.trace = s.trace ++ [.closeReq, .ended .timeout] ∧
      exec (.rxByte b) t = .refused .rxNotReady) ∧
    ∃ u, execAll [.rxByte b, .rxTimeout x] s = .next u ∧
      u.trace = s.trace ++ [decodedFrame s, .closeReq, .ended .timeout]) ∧
  ∀ (x y : BitVec 8) (s : State), s.loop = .reading →
    ∃ t u, execAll [.stop x, .rxTimeout y] s = .next t ∧ execAll [.rxTimeout y, .stop x] s = .next u ∧
      t.loop = .terminated ∧ u.loop = .terminated

/-! ## Outputs, frames of the fields, invariants -/

/-- R32, the layout of STATUS, with the codes of R23, R24, R30 and R175 for every value, and R33, rx_ready. -/
def Obligations.StatusAndRxReadyShowTheState : Prop :=
  ∀ s : State,
    (rxReady s = true ↔ s.loop = .syncing ∨ s.loop = .reading) ∧
    (statusWord s).extractLsb' 0 3 = s.loop.code ∧ (statusWord s).extractLsb' 3 1 = s.conn.code ∧
    (statusWord s).extractLsb' 4 2 = s.lastError.code ∧ (statusWord s).getLsbD 6 = s.stopPending ∧
    (statusWord s).getLsbD 7 = s.cmdError ∧
    ((statusWord s).extractLsb' 0 3 = 0 ↔ s.loop = .idle) ∧
    ((statusWord s).extractLsb' 0 3 = 1 ↔ s.loop = .syncing) ∧
    ((statusWord s).extractLsb' 0 3 = 2 ↔ s.loop = .reading) ∧
    ((statusWord s).extractLsb' 0 3 = 3 ↔ s.loop = .stopped) ∧
    ((statusWord s).extractLsb' 0 3 = 4 ↔ s.loop = .terminated) ∧
    ((statusWord s).extractLsb' 3 1 = 0 ↔ s.conn = .closed) ∧
    ((statusWord s).extractLsb' 3 1 = 1 ↔ s.conn = .opened) ∧
    ((statusWord s).extractLsb' 4 2 = 0 ↔ s.lastError = .none) ∧
    ((statusWord s).extractLsb' 4 2 = 1 ↔ s.lastError = .portUnavailable) ∧
    ((statusWord s).extractLsb' 4 2 = 2 ↔ s.lastError = .timeout) ∧
    ((statusWord s).extractLsb' 4 2 = 3 ↔ s.lastError = .ioFailure)

/-- R80's table, with R54, R81 and R96: an event only adds to the trace, each output at most once, and it adds
FRAME exactly where RX_BYTE is delimiter 2 (R125), and then that of the decoded FB; FLUSH_REQ exactly where
START is accepted (R160); CLOSE_REQ exactly where CLOSE closes an open connection (R94) or a running loop
ends (R165, R181); END(STOPPED) exactly where the stop action is taken (R164, R125); END(TIMEOUT) and
END(IO_FAILURE) exactly where RX_TIMEOUT and RX_IOFAIL find the loop running (R179, R180). -/
def Obligations.OutputsComeOnlyFromTheirRules : Prop :=
  ∀ (i : Instr) (s t : State), exec i s = .next t →
    ∃ es, t.trace = s.trace ++ es ∧ es.Nodup ∧
      (∀ vs tv, OutEvent.frame vs tv ∈ es ↔
        (∃ b, i = .rxByte b) ∧ s.loop = .reading ∧ s.rdCnt = 2 * s.cfg.n + 5 ∧ vs = samples s ∧ tv = timing s) ∧
      (∀ vs tv, OutEvent.frame vs tv ∈ es → vs.length = s.cfg.n) ∧
      (OutEvent.flushReq ∈ es ↔ (∃ x, i = .start x) ∧ s.loop.running = false ∧ s.conn = .opened) ∧
      (OutEvent.closeReq ∈ es ↔
        ((∃ x, i = .close x) ∧ s.loop.running = false ∧ s.conn = .opened) ∨
          (s.loop.running = true ∧ t.loop.running = false)) ∧
      (OutEvent.closeReq ∈ es → t.conn = .closed) ∧
      (OutEvent.ended .stopped ∈ es ↔
        ((∃ x, i = .stop x) ∧ s.loop = .syncing) ∨
          ((∃ b, i = .rxByte b) ∧ s.loop = .reading ∧ s.rdCnt = 2 * s.cfg.n + 5 ∧ s.stopPending = true)) ∧
      (OutEvent.ended .timeout ∈ es ↔ (∃ x, i = .rxTimeout x) ∧ s.loop.running = true) ∧
      (OutEvent.ended .ioFailure ∈ es ↔ (∃ x, i = .rxIofail x) ∧ s.loop.running = true) ∧
      (∀ r, OutEvent.ended r ∈ es → s.loop.running = true ∧ t.loop.running = false ∧ t.conn = .closed)

/-- R40's table for the fields other than loop, FB and cmd_error (LoopMovesOnlyAlongTheTable,
FbChangesOnlyAtTheStoredByte and CmdErrorShowsWhetherTheLastCommandWasRejected say it of those): an event
changes a field only by a rule the table lists for it, under that rule's condition. "A running loop ends" is
R165 or R181. The parameters (R34), the inputs still to come and the count of resets are unchanged. -/
def Obligations.FieldsAreWrittenOnlyByTheirRules : Prop :=
  ∀ (i : Instr) (s t : State), exec i s = .next t →
    t.cfg = s.cfg ∧ t.input = s.input ∧ t.fbDraw = s.fbDraw ∧
    (t.conn ≠ s.conn →
      ((∃ x, i = .openOk x) ∧ s.conn = .closed) ∨
      ((∃ x, i = .close x) ∧ s.loop.running = false ∧ s.conn = .opened) ∨
      (s.loop.running = true ∧ t.loop.running = false)) ∧
    (t.lineLen ≠ s.lineLen ∨ t.lineMatch ≠ s.lineMatch →
      ((∃ b, i = .rxByte b) ∧ (s.loop = .syncing ∨ (s.loop = .reading ∧ s.rdCnt = 2 * s.cfg.n + 5))) ∨
      ((∃ x, i = .start x) ∧ s.loop.running = false ∧ s.conn = .opened) ∨
      (s.loop.running = true ∧ t.loop.running = false)) ∧
    (t.rdCnt ≠ s.rdCnt →
      ((∃ b, i = .rxByte b) ∧ s.loop = .reading) ∨
      (i = .rxByte LF ∧ s.loop = .syncing ∧ s.lineMatch = true ∧ s.lineLen = 36) ∨
      ((∃ x, i = .start x) ∧ s.loop.running = false ∧ s.conn = .opened) ∨
      (s.loop.running = true ∧ t.loop.running = false)) ∧
    (t.stopPending ≠ s.stopPending →
      ((∃ x, i = .stop x) ∧ s.loop = .reading) ∨
      ((∃ x, i = .start x) ∧ s.loop.running = false ∧ s.conn = .opened) ∨
      (s.loop.running = true ∧ t.loop.running = false)) ∧
    (t.lastError ≠ s.lastError →
      ((∃ x, i = .openFail x) ∧ s.conn = .closed) ∨
      ((∃ x, i = .start x) ∧ s.loop.running = false ∧ s.conn = .opened) ∨
      (((∃ x, i = .rxTimeout x) ∨ ∃ x, i = .rxIofail x) ∧ s.loop.running = true))

/-- R24, R165, R181, R187: where a loop ends, the connection is CLOSED, the scanner and rd_cnt are clear, no stop
is pending, and CLOSE_REQ and then END with its reason are the last outputs of that step. By R82 the reason's
code is 0 after a stop, else that of `last_error`. -/
def Obligations.EndOfALoopClosesTheConnection : Prop :=
  ∀ (i : Instr) (s t : State), exec i s = .next t → t.loop ≠ s.loop →
    t.loop = .stopped ∨ t.loop = .terminated →
    t.conn = .closed ∧ t.lineLen = 0 ∧ t.lineMatch = true ∧ t.rdCnt = 0 ∧ t.stopPending = false ∧
      ∃ pre r, t.trace = s.trace ++ pre ++ [.closeReq, .ended r] ∧ (r = .stopped ↔ t.loop = .stopped) ∧
        (t.loop = .stopped → r.code = 0) ∧ (t.loop = .terminated → r.code = t.lastError.code)

/-- R35, clauses 1 to 7, with the ranges of the counters (R25, R28), FB's canonical form and range (R27), what
FB holds while a body is read (R129) and `last_error` while running: every step keeps them. -/
def Obligations.StepKeepsTheInvariants : Prop :=
  ∀ s t : State, Inv s → step s = .next t → Inv t

/-- The invariants hold after reset, for all well-formed parameters and whatever is presented; `State.reset`
is one such state. -/
def Obligations.InvariantsHoldAtReset : Prop :=
  (∀ (p : Params) (inputs : List Input), p.wf = true → Inv { State.resetWith p with input := inputs }) ∧
  Inv State.reset

/-- R35, clauses 1 to 7, as it is stated, over the states a run reaches; the parameters never change (R34). -/
def Obligations.ReachableStatesSatisfyTheInvariants : Prop :=
  ∀ (p : Params) (s : State), p.wf = true → Reachable p s → Inv s ∧ s.cfg = p

/-- R35's clause 8 fails: by R91 an OPEN in STOPPED or TERMINATED leaves `loop` there with the connection OPEN
(vectors A-8 and A-10; log entry 5). It fails by such an OPEN alone: it holds after reset, and every other
event keeps it, from every state. -/
def Obligations.OpenWhileEndedBreaksClauseEight : Prop :=
  (∀ p : Params, p.wf = true →
    (∃ s, Reachable p s ∧ s.loop = .stopped ∧ s.conn = .opened) ∧
    ∃ s, Reachable p s ∧ s.loop = .terminated ∧ ¬ ClosedWhenEnded s) ∧
  (∀ p : Params, ClosedWhenEnded (State.resetWith p)) ∧
  ∀ (i : Instr) (s t : State), exec i s = .next t → (∀ x, i ≠ .openOk x) →
    ClosedWhenEnded s → ClosedWhenEnded t

/-- R11, R20: under the invariants the counters fit the widths of their fields, 6 bits and `CNT_W` bits, with
`CNT_W` the least width that holds `2N+6` values. -/
def Obligations.CountersFitTheirWidths : Prop :=
  ∀ s : State, Inv s → s.lineLen < 2 ^ 6 ∧ s.rdCnt < 2 ^ cntWidth s.cfg.n ∧
    ∀ w, 2 * s.cfg.n + 6 ≤ 2 ^ w ↔ cntWidth s.cfg.n ≤ w

/-! ## Wire format and script -/

/-- R65, R67, R68, R214: a body has `2N+6` bytes and a frame `2N+43`; the samples and the timing value are
read back from their wire positions. -/
def Obligations.WireBytesCarryTheFrame : Prop :=
  ∀ (p : Params) (vs : List U16) (tv : U32) (d1 d2 : Byte), p.wf = true → vs.length = p.n →
    (bodyBytes vs tv d1 d2).length = bodyLen p.n ∧
    (frameBytes p vs tv d1 d2).length = wireFrameLen p.n ∧
    wireSamples p.n (bodyBytes vs tv d1 d2) = vs ∧ wireTiming p.n (bodyBytes vs tv d1 d2) = tv

/-- R78: the script syntax writes every ignored data bit as 0, except where `.word` writes a word itself. -/
def Obligations.ScriptWritesIgnoredBitsAsZero : Prop :=
  ∀ (p : Params) (l : ScriptLine) (ws : List EventWord), l.words p = .ok ws → (∀ w, l ≠ .word w) →
    ∀ ev ∈ ws, (decode ev).ignoredBitsZero = true
end

