-- ==== Sys2Proof/Laws/Memory.lean ====
section
/-!
SUPPORT. The laws of FB's memory: what a read gives after a write, and that every memory operation keeps
the canonical form.
-/

namespace Sys2Proof.Machine

@[simp] theorem Memory.lookup_nil (a : Nat) : Memory.lookup [] a = none := rfl

theorem Memory.lookup_write (m : Memory) (a c : Nat) (b : Byte) :
    Memory.lookup (Memory.write m a b) c = if c = a then some b else Memory.lookup m c := by
  induction m with
  | nil => by_cases h : c = a <;> simp [Memory.write, Memory.lookup, h, Ne.symm]
  | cons x m ih =>
    obtain ⟨k, v⟩ := x
    by_cases hca : c = a
    · subst hca
      simp only [Memory.write]
      split
      · simp [Memory.lookup]
      · split
        · simp [Memory.lookup]
        · have : k ≠ c := by omega
          simp [Memory.lookup, this, ih]
    · simp only [Memory.write]
      split
      · simp [Memory.lookup, Ne.symm hca]
      · split
        · subst_vars; simp [Memory.lookup, Ne.symm hca]
        · by_cases hk : k = c <;> simp [Memory.lookup, hk, ih, hca]

@[simp] theorem Memory.lookup_write_same (m : Memory) (a : Nat) (b : Byte) :
    Memory.lookup (Memory.write m a b) a = some b := by simp [Memory.lookup_write]

theorem Memory.lookup_write_other (m : Memory) {a c : Nat} (b : Byte) (h : c ≠ a) :
    Memory.lookup (Memory.write m a b) c = Memory.lookup m c := by simp [Memory.lookup_write, h]

/-- What a write lists: the cell it writes, or a cell that was listed. -/
theorem Memory.mem_write {m : Memory} {a : Nat} {b : Byte} {c : Host.Cell}
    (h : c ∈ Memory.write m a b) : c = (a, b) ∨ c ∈ m := by
  induction m with
  | nil => simpa [Memory.write] using h
  | cons x m ih =>
    simp only [Memory.write] at h
    split at h
    · simpa using h
    · split at h
      · rcases List.mem_cons.1 h with h | h <;> simp [h]
      · rcases List.mem_cons.1 h with h | h
        · simp [h]
        · rcases ih h with h | h <;> simp [h]

theorem Memory.pairwise_write {m : Memory} (a : Nat) (b : Byte)
    (h : m.Pairwise (fun x y => x.1 < y.1)) : (Memory.write m a b).Pairwise (fun x y => x.1 < y.1) := by
  induction m with
  | nil => simp [Memory.write]
  | cons x m ih =>
    obtain ⟨hx, hm⟩ := List.pairwise_cons.1 h
    simp only [Memory.write]
    split
    · refine List.pairwise_cons.2 ⟨fun y hy => ?_, h⟩
      rcases List.mem_cons.1 hy with rfl | hy
      · assumption
      · exact lt_trans ‹_› (hx y hy)
    · split
      · exact List.pairwise_cons.2 ⟨fun y hy => by subst_vars; exact hx y hy, hm⟩
      · refine List.pairwise_cons.2 ⟨fun y hy => ?_, ih hm⟩
        rcases Memory.mem_write hy with rfl | hy
        · simp; omega
        · exact hx y hy

/-- A write inside the memory keeps the canonical form. -/
theorem Memory.wf_write {len : Nat} {m : Memory} {a : Nat} (b : Byte) (ha : a < len)
    (h : Memory.wf len m) : Memory.wf len (Memory.write m a b) := by
  refine ⟨Memory.pairwise_write a b h.1, fun c hc => ?_⟩
  rcases Memory.mem_write hc with rfl | hc
  · exact ha
  · exact h.2 c hc

/-- The empty memory, FB after reset, is canonical. -/
theorem Memory.wf_nil (len : Nat) : Memory.wf len [] := by simp [Memory.wf]

/-- A write makes its address known and forgets none. -/
theorem Memory.isSome_lookup_write (m : Memory) (a c : Nat) (b : Byte) :
    (Memory.lookup (Memory.write m a b) c).isSome = (decide (c = a) || (Memory.lookup m c).isSome) := by
  rw [Memory.lookup_write]; split <;> simp [*]

/-- FB after `MemWrite(a, 1, b)`, byte by byte (R13). -/
@[simp] theorem fbByte_memWrite (s : State) (a c : Nat) (b : Byte) :
    fbByte (memWrite a b s) c = if c = a then b else fbByte s c := by
  unfold fbByte memWrite
  rw [Memory.lookup_write]; split <;> simp_all

/-- FB's bytes depend on nothing but the memory and the number of resets. -/
theorem fbByte_congr {s t : State} (hfb : t.fb = s.fb) (hd : t.fbDraw = s.fbDraw) (a : Nat) :
    fbByte t a = fbByte s a := by simp [fbByte, hfb, hd]

/-- A listed byte reads as listed. -/
theorem fbByte_of_lookup {s : State} {a : Nat} {b : Byte} (h : Memory.lookup s.fb a = some b) :
    fbByte s a = b := by simp [fbByte, h]

end Sys2Proof.Machine
end

