-- ==== Sys2Proof/Laws/State.lean ====
section
/-!
SUPPORT. One lemma per field of the state for each operation that updates it, so that no proof unfolds a
record update.
-/

namespace Sys2Proof.Machine

/-! `MemWrite` (R13). -/

@[simp] theorem memWrite_cfg (a : Nat) (b : Byte) (s : State) : (memWrite a b s).cfg = s.cfg := rfl
@[simp] theorem memWrite_loop (a : Nat) (b : Byte) (s : State) : (memWrite a b s).loop = s.loop := rfl
@[simp] theorem memWrite_conn (a : Nat) (b : Byte) (s : State) : (memWrite a b s).conn = s.conn := rfl
@[simp] theorem memWrite_lineLen (a : Nat) (b : Byte) (s : State) : (memWrite a b s).lineLen = s.lineLen := rfl
@[simp] theorem memWrite_lineMatch (a : Nat) (b : Byte) (s : State) : (memWrite a b s).lineMatch = s.lineMatch := rfl
@[simp] theorem memWrite_rdCnt (a : Nat) (b : Byte) (s : State) : (memWrite a b s).rdCnt = s.rdCnt := rfl
@[simp] theorem memWrite_fb (a : Nat) (b : Byte) (s : State) : (memWrite a b s).fb = Memory.write s.fb a b := rfl
@[simp] theorem memWrite_stopPending (a : Nat) (b : Byte) (s : State) : (memWrite a b s).stopPending = s.stopPending := rfl
@[simp] theorem memWrite_lastError (a : Nat) (b : Byte) (s : State) : (memWrite a b s).lastError = s.lastError := rfl
@[simp] theorem memWrite_cmdError (a : Nat) (b : Byte) (s : State) : (memWrite a b s).cmdError = s.cmdError := rfl
@[simp] theorem memWrite_input (a : Nat) (b : Byte) (s : State) : (memWrite a b s).input = s.input := rfl
@[simp] theorem memWrite_trace (a : Nat) (b : Byte) (s : State) : (memWrite a b s).trace = s.trace := rfl
@[simp] theorem memWrite_fbDraw (a : Nat) (b : Byte) (s : State) : (memWrite a b s).fbDraw = s.fbDraw := rfl

/-! `emit` (R14). -/

@[simp] theorem emit_cfg (e : OutEvent) (s : State) : (emit e s).cfg = s.cfg := rfl
@[simp] theorem emit_loop (e : OutEvent) (s : State) : (emit e s).loop = s.loop := rfl
@[simp] theorem emit_conn (e : OutEvent) (s : State) : (emit e s).conn = s.conn := rfl
@[simp] theorem emit_lineLen (e : OutEvent) (s : State) : (emit e s).lineLen = s.lineLen := rfl
@[simp] theorem emit_lineMatch (e : OutEvent) (s : State) : (emit e s).lineMatch = s.lineMatch := rfl
@[simp] theorem emit_rdCnt (e : OutEvent) (s : State) : (emit e s).rdCnt = s.rdCnt := rfl
@[simp] theorem emit_fb (e : OutEvent) (s : State) : (emit e s).fb = s.fb := rfl
@[simp] theorem emit_stopPending (e : OutEvent) (s : State) : (emit e s).stopPending = s.stopPending := rfl
@[simp] theorem emit_lastError (e : OutEvent) (s : State) : (emit e s).lastError = s.lastError := rfl
@[simp] theorem emit_cmdError (e : OutEvent) (s : State) : (emit e s).cmdError = s.cmdError := rfl
@[simp] theorem emit_input (e : OutEvent) (s : State) : (emit e s).input = s.input := rfl
@[simp] theorem emit_trace (e : OutEvent) (s : State) : (emit e s).trace = s.trace ++ [e] := rfl
@[simp] theorem emit_fbDraw (e : OutEvent) (s : State) : (emit e s).fbDraw = s.fbDraw := rfl

/-! The line reset (R36). -/

@[simp] theorem lineReset_cfg (s : State) : (lineReset s).cfg = s.cfg := rfl
@[simp] theorem lineReset_loop (s : State) : (lineReset s).loop = s.loop := rfl
@[simp] theorem lineReset_conn (s : State) : (lineReset s).conn = s.conn := rfl
@[simp] theorem lineReset_lineLen (s : State) : (lineReset s).lineLen = 0 := rfl
@[simp] theorem lineReset_lineMatch (s : State) : (lineReset s).lineMatch = true := rfl
@[simp] theorem lineReset_rdCnt (s : State) : (lineReset s).rdCnt = s.rdCnt := rfl
@[simp] theorem lineReset_fb (s : State) : (lineReset s).fb = s.fb := rfl
@[simp] theorem lineReset_stopPending (s : State) : (lineReset s).stopPending = s.stopPending := rfl
@[simp] theorem lineReset_lastError (s : State) : (lineReset s).lastError = s.lastError := rfl
@[simp] theorem lineReset_cmdError (s : State) : (lineReset s).cmdError = s.cmdError := rfl
@[simp] theorem lineReset_input (s : State) : (lineReset s).input = s.input := rfl
@[simp] theorem lineReset_trace (s : State) : (lineReset s).trace = s.trace := rfl
@[simp] theorem lineReset_fbDraw (s : State) : (lineReset s).fbDraw = s.fbDraw := rfl

/-! The advance of rd_cnt (R124). -/

@[simp] theorem advance_cfg (s : State) : (advance s).cfg = s.cfg := rfl
@[simp] theorem advance_loop (s : State) : (advance s).loop = s.loop := rfl
@[simp] theorem advance_conn (s : State) : (advance s).conn = s.conn := rfl
@[simp] theorem advance_lineLen (s : State) : (advance s).lineLen = s.lineLen := rfl
@[simp] theorem advance_lineMatch (s : State) : (advance s).lineMatch = s.lineMatch := rfl
@[simp] theorem advance_rdCnt (s : State) : (advance s).rdCnt = s.rdCnt + 1 := rfl
@[simp] theorem advance_fb (s : State) : (advance s).fb = s.fb := rfl
@[simp] theorem advance_stopPending (s : State) : (advance s).stopPending = s.stopPending := rfl
@[simp] theorem advance_lastError (s : State) : (advance s).lastError = s.lastError := rfl
@[simp] theorem advance_cmdError (s : State) : (advance s).cmdError = s.cmdError := rfl
@[simp] theorem advance_input (s : State) : (advance s).input = s.input := rfl
@[simp] theorem advance_trace (s : State) : (advance s).trace = s.trace := rfl
@[simp] theorem advance_fbDraw (s : State) : (advance s).fbDraw = s.fbDraw := rfl

/-! An accepted command (R31). -/

@[simp] theorem accept_cfg (s : State) : (accept s).cfg = s.cfg := rfl
@[simp] theorem accept_loop (s : State) : (accept s).loop = s.loop := rfl
@[simp] theorem accept_conn (s : State) : (accept s).conn = s.conn := rfl
@[simp] theorem accept_lineLen (s : State) : (accept s).lineLen = s.lineLen := rfl
@[simp] theorem accept_lineMatch (s : State) : (accept s).lineMatch = s.lineMatch := rfl
@[simp] theorem accept_rdCnt (s : State) : (accept s).rdCnt = s.rdCnt := rfl
@[simp] theorem accept_fb (s : State) : (accept s).fb = s.fb := rfl
@[simp] theorem accept_stopPending (s : State) : (accept s).stopPending = s.stopPending := rfl
@[simp] theorem accept_lastError (s : State) : (accept s).lastError = s.lastError := rfl
@[simp] theorem accept_cmdError (s : State) : (accept s).cmdError = false := rfl
@[simp] theorem accept_input (s : State) : (accept s).input = s.input := rfl
@[simp] theorem accept_trace (s : State) : (accept s).trace = s.trace := rfl
@[simp] theorem accept_fbDraw (s : State) : (accept s).fbDraw = s.fbDraw := rfl

/-! A rejected command (R170). -/

@[simp] theorem reject_cfg (s : State) : (reject s).cfg = s.cfg := rfl
@[simp] theorem reject_loop (s : State) : (reject s).loop = s.loop := rfl
@[simp] theorem reject_conn (s : State) : (reject s).conn = s.conn := rfl
@[simp] theorem reject_lineLen (s : State) : (reject s).lineLen = s.lineLen := rfl
@[simp] theorem reject_lineMatch (s : State) : (reject s).lineMatch = s.lineMatch := rfl
@[simp] theorem reject_rdCnt (s : State) : (reject s).rdCnt = s.rdCnt := rfl
@[simp] theorem reject_fb (s : State) : (reject s).fb = s.fb := rfl
@[simp] theorem reject_stopPending (s : State) : (reject s).stopPending = s.stopPending := rfl
@[simp] theorem reject_lastError (s : State) : (reject s).lastError = s.lastError := rfl
@[simp] theorem reject_cmdError (s : State) : (reject s).cmdError = true := rfl
@[simp] theorem reject_input (s : State) : (reject s).input = s.input := rfl
@[simp] theorem reject_trace (s : State) : (reject s).trace = s.trace := rfl
@[simp] theorem reject_fbDraw (s : State) : (reject s).fbDraw = s.fbDraw := rfl

/-! The end of a loop (R165, R181). -/

@[simp] theorem endLoop_cfg (l : Loop) (r : EndReason) (s : State) : (endLoop l r s).cfg = s.cfg := rfl
@[simp] theorem endLoop_loop (l : Loop) (r : EndReason) (s : State) : (endLoop l r s).loop = l := rfl
@[simp] theorem endLoop_conn (l : Loop) (r : EndReason) (s : State) : (endLoop l r s).conn = .closed := rfl
@[simp] theorem endLoop_lineLen (l : Loop) (r : EndReason) (s : State) : (endLoop l r s).lineLen = 0 := rfl
@[simp] theorem endLoop_lineMatch (l : Loop) (r : EndReason) (s : State) : (endLoop l r s).lineMatch = true := rfl
@[simp] theorem endLoop_rdCnt (l : Loop) (r : EndReason) (s : State) : (endLoop l r s).rdCnt = 0 := rfl
@[simp] theorem endLoop_fb (l : Loop) (r : EndReason) (s : State) : (endLoop l r s).fb = s.fb := rfl
@[simp] theorem endLoop_stopPending (l : Loop) (r : EndReason) (s : State) : (endLoop l r s).stopPending = false := rfl
@[simp] theorem endLoop_lastError (l : Loop) (r : EndReason) (s : State) : (endLoop l r s).lastError = s.lastError := rfl
@[simp] theorem endLoop_cmdError (l : Loop) (r : EndReason) (s : State) : (endLoop l r s).cmdError = s.cmdError := rfl
@[simp] theorem endLoop_input (l : Loop) (r : EndReason) (s : State) : (endLoop l r s).input = s.input := rfl
@[simp] theorem endLoop_trace (l : Loop) (r : EndReason) (s : State) : (endLoop l r s).trace = s.trace ++ [.closeReq] ++ [.ended r] := rfl
@[simp] theorem endLoop_fbDraw (l : Loop) (r : EndReason) (s : State) : (endLoop l r s).fbDraw = s.fbDraw := rfl

/-! The stop action (R165). -/

@[simp] theorem stopAction_cfg (s : State) : (stopAction s).cfg = s.cfg := rfl
@[simp] theorem stopAction_loop (s : State) : (stopAction s).loop = .stopped := rfl
@[simp] theorem stopAction_conn (s : State) : (stopAction s).conn = .closed := rfl
@[simp] theorem stopAction_lineLen (s : State) : (stopAction s).lineLen = 0 := rfl
@[simp] theorem stopAction_lineMatch (s : State) : (stopAction s).lineMatch = true := rfl
@[simp] theorem stopAction_rdCnt (s : State) : (stopAction s).rdCnt = 0 := rfl
@[simp] theorem stopAction_fb (s : State) : (stopAction s).fb = s.fb := rfl
@[simp] theorem stopAction_stopPending (s : State) : (stopAction s).stopPending = false := rfl
@[simp] theorem stopAction_lastError (s : State) : (stopAction s).lastError = s.lastError := rfl
@[simp] theorem stopAction_cmdError (s : State) : (stopAction s).cmdError = s.cmdError := rfl
@[simp] theorem stopAction_input (s : State) : (stopAction s).input = s.input := rfl
@[simp] theorem stopAction_trace (s : State) : (stopAction s).trace = s.trace ++ [.closeReq] ++ [.ended .stopped] := rfl
@[simp] theorem stopAction_fbDraw (s : State) : (stopAction s).fbDraw = s.fbDraw := rfl

/-! Fatal termination (R181). -/

@[simp] theorem raiseFatal_cfg (k : FatalKind) (s : State) : (raiseFatal k s).cfg = s.cfg := rfl
@[simp] theorem raiseFatal_loop (k : FatalKind) (s : State) : (raiseFatal k s).loop = .terminated := rfl
@[simp] theorem raiseFatal_conn (k : FatalKind) (s : State) : (raiseFatal k s).conn = .closed := rfl
@[simp] theorem raiseFatal_lineLen (k : FatalKind) (s : State) : (raiseFatal k s).lineLen = 0 := rfl
@[simp] theorem raiseFatal_lineMatch (k : FatalKind) (s : State) : (raiseFatal k s).lineMatch = true := rfl
@[simp] theorem raiseFatal_rdCnt (k : FatalKind) (s : State) : (raiseFatal k s).rdCnt = 0 := rfl
@[simp] theorem raiseFatal_fb (k : FatalKind) (s : State) : (raiseFatal k s).fb = s.fb := rfl
@[simp] theorem raiseFatal_stopPending (k : FatalKind) (s : State) : (raiseFatal k s).stopPending = false := rfl
@[simp] theorem raiseFatal_lastError (k : FatalKind) (s : State) : (raiseFatal k s).lastError = k.error := rfl
@[simp] theorem raiseFatal_cmdError (k : FatalKind) (s : State) : (raiseFatal k s).cmdError = s.cmdError := rfl
@[simp] theorem raiseFatal_input (k : FatalKind) (s : State) : (raiseFatal k s).input = s.input := rfl
@[simp] theorem raiseFatal_trace (k : FatalKind) (s : State) : (raiseFatal k s).trace = s.trace ++ [.closeReq] ++ [.ended k.reason] := rfl
@[simp] theorem raiseFatal_fbDraw (k : FatalKind) (s : State) : (raiseFatal k s).fbDraw = s.fbDraw := rfl

/-! An accepted START (R160). -/

@[simp] theorem startLoop_cfg (s : State) : (startLoop s).cfg = s.cfg := rfl
@[simp] theorem startLoop_loop (s : State) : (startLoop s).loop = .syncing := rfl
@[simp] theorem startLoop_conn (s : State) : (startLoop s).conn = s.conn := rfl
@[simp] theorem startLoop_lineLen (s : State) : (startLoop s).lineLen = 0 := rfl
@[simp] theorem startLoop_lineMatch (s : State) : (startLoop s).lineMatch = true := rfl
@[simp] theorem startLoop_rdCnt (s : State) : (startLoop s).rdCnt = 0 := rfl
@[simp] theorem startLoop_fb (s : State) : (startLoop s).fb = s.fb := rfl
@[simp] theorem startLoop_stopPending (s : State) : (startLoop s).stopPending = false := rfl
@[simp] theorem startLoop_lastError (s : State) : (startLoop s).lastError = .none := rfl
@[simp] theorem startLoop_cmdError (s : State) : (startLoop s).cmdError = false := rfl
@[simp] theorem startLoop_input (s : State) : (startLoop s).input = s.input := rfl
@[simp] theorem startLoop_trace (s : State) : (startLoop s).trace = s.trace ++ [.flushReq] := rfl
@[simp] theorem startLoop_fbDraw (s : State) : (startLoop s).fbDraw = s.fbDraw := rfl

/-! The reset input (R200). -/

@[simp] theorem resetInput_cfg (s : State) : (resetInput s).cfg = s.cfg := rfl
@[simp] theorem resetInput_loop (s : State) : (resetInput s).loop = .idle := rfl
@[simp] theorem resetInput_conn (s : State) : (resetInput s).conn = .closed := rfl
@[simp] theorem resetInput_lineLen (s : State) : (resetInput s).lineLen = 0 := rfl
@[simp] theorem resetInput_lineMatch (s : State) : (resetInput s).lineMatch = true := rfl
@[simp] theorem resetInput_rdCnt (s : State) : (resetInput s).rdCnt = 0 := rfl
@[simp] theorem resetInput_fb (s : State) : (resetInput s).fb = [] := rfl
@[simp] theorem resetInput_stopPending (s : State) : (resetInput s).stopPending = false := rfl
@[simp] theorem resetInput_lastError (s : State) : (resetInput s).lastError = .none := rfl
@[simp] theorem resetInput_cmdError (s : State) : (resetInput s).cmdError = false := rfl
@[simp] theorem resetInput_input (s : State) : (resetInput s).input = s.input := rfl
@[simp] theorem resetInput_trace (s : State) : (resetInput s).trace = [] := rfl
@[simp] theorem resetInput_fbDraw (s : State) : (resetInput s).fbDraw = s.fbDraw + 1 := rfl

/-! A byte of a line (R106). -/

@[simp] theorem scanByte_cfg (b : Byte) (s : State) : (scanByte b s).cfg = s.cfg := rfl
@[simp] theorem scanByte_loop (b : Byte) (s : State) : (scanByte b s).loop = s.loop := rfl
@[simp] theorem scanByte_conn (b : Byte) (s : State) : (scanByte b s).conn = s.conn := rfl
@[simp] theorem scanByte_lineLen (b : Byte) (s : State) : (scanByte b s).lineLen = min (s.lineLen + 1) 37 := rfl
@[simp] theorem scanByte_lineMatch (b : Byte) (s : State) : (scanByte b s).lineMatch = (s.lineMatch && (decide (s.lineLen < 36) && matchesMarkerAt s.cfg s.lineLen b)) := rfl
@[simp] theorem scanByte_rdCnt (b : Byte) (s : State) : (scanByte b s).rdCnt = s.rdCnt := rfl
@[simp] theorem scanByte_fb (b : Byte) (s : State) : (scanByte b s).fb = s.fb := rfl
@[simp] theorem scanByte_stopPending (b : Byte) (s : State) : (scanByte b s).stopPending = s.stopPending := rfl
@[simp] theorem scanByte_lastError (b : Byte) (s : State) : (scanByte b s).lastError = s.lastError := rfl
@[simp] theorem scanByte_cmdError (b : Byte) (s : State) : (scanByte b s).cmdError = s.cmdError := rfl
@[simp] theorem scanByte_input (b : Byte) (s : State) : (scanByte b s).input = s.input := rfl
@[simp] theorem scanByte_trace (b : Byte) (s : State) : (scanByte b s).trace = s.trace := rfl
@[simp] theorem scanByte_fbDraw (b : Byte) (s : State) : (scanByte b s).fbDraw = s.fbDraw := rfl

/-! A stored body byte (R121, R123). -/

@[simp] theorem storeByte_cfg (a : Nat) (b : Byte) (s : State) : (storeByte a b s).cfg = s.cfg := rfl
@[simp] theorem storeByte_loop (a : Nat) (b : Byte) (s : State) : (storeByte a b s).loop = s.loop := rfl
@[simp] theorem storeByte_conn (a : Nat) (b : Byte) (s : State) : (storeByte a b s).conn = s.conn := rfl
@[simp] theorem storeByte_lineLen (a : Nat) (b : Byte) (s : State) : (storeByte a b s).lineLen = s.lineLen := rfl
@[simp] theorem storeByte_lineMatch (a : Nat) (b : Byte) (s : State) : (storeByte a b s).lineMatch = s.lineMatch := rfl
@[simp] theorem storeByte_rdCnt (a : Nat) (b : Byte) (s : State) : (storeByte a b s).rdCnt = s.rdCnt + 1 := rfl
@[simp] theorem storeByte_fb (a : Nat) (b : Byte) (s : State) : (storeByte a b s).fb = Memory.write s.fb a b := rfl
@[simp] theorem storeByte_stopPending (a : Nat) (b : Byte) (s : State) : (storeByte a b s).stopPending = s.stopPending := rfl
@[simp] theorem storeByte_lastError (a : Nat) (b : Byte) (s : State) : (storeByte a b s).lastError = s.lastError := rfl
@[simp] theorem storeByte_cmdError (a : Nat) (b : Byte) (s : State) : (storeByte a b s).cmdError = s.cmdError := rfl
@[simp] theorem storeByte_input (a : Nat) (b : Byte) (s : State) : (storeByte a b s).input = s.input := rfl
@[simp] theorem storeByte_trace (a : Nat) (b : Byte) (s : State) : (storeByte a b s).trace = s.trace := rfl
@[simp] theorem storeByte_fbDraw (a : Nat) (b : Byte) (s : State) : (storeByte a b s).fbDraw = s.fbDraw := rfl

/-! The state after reset (R39), for any parameters. -/

@[simp] theorem resetWith_cfg (p : Params) : (State.resetWith p).cfg = p := rfl
@[simp] theorem resetWith_loop (p : Params) : (State.resetWith p).loop = .idle := rfl
@[simp] theorem resetWith_conn (p : Params) : (State.resetWith p).conn = .closed := rfl
@[simp] theorem resetWith_lineLen (p : Params) : (State.resetWith p).lineLen = 0 := rfl
@[simp] theorem resetWith_lineMatch (p : Params) : (State.resetWith p).lineMatch = true := rfl
@[simp] theorem resetWith_rdCnt (p : Params) : (State.resetWith p).rdCnt = 0 := rfl
@[simp] theorem resetWith_fb (p : Params) : (State.resetWith p).fb = [] := rfl
@[simp] theorem resetWith_stopPending (p : Params) : (State.resetWith p).stopPending = false := rfl
@[simp] theorem resetWith_lastError (p : Params) : (State.resetWith p).lastError = .none := rfl
@[simp] theorem resetWith_cmdError (p : Params) : (State.resetWith p).cmdError = false := rfl
@[simp] theorem resetWith_input (p : Params) : (State.resetWith p).input = [] := rfl
@[simp] theorem resetWith_trace (p : Params) : (State.resetWith p).trace = [] := rfl
@[simp] theorem resetWith_fbDraw (p : Params) : (State.resetWith p).fbDraw = 0 := rfl

end Sys2Proof.Machine
end

