-- ==== Sys2Proof/Laws/Ops.lean ====
section
/-!
SUPPORT. One lemma per shared operation that says what it can do, for later proofs to cite.
-/

namespace Sys2Proof.Machine

@[simp] theorem fbByte_emit (e : OutEvent) (s : State) (a : Nat) : fbByte (emit e s) a = fbByte s a := rfl
@[simp] theorem fbByte_lineReset (s : State) (a : Nat) : fbByte (lineReset s) a = fbByte s a := rfl
@[simp] theorem fbByte_advance (s : State) (a : Nat) : fbByte (advance s) a = fbByte s a := rfl
@[simp] theorem fbByte_accept (s : State) (a : Nat) : fbByte (accept s) a = fbByte s a := rfl
@[simp] theorem fbByte_reject (s : State) (a : Nat) : fbByte (reject s) a = fbByte s a := rfl
@[simp] theorem fbByte_endLoop (l : Loop) (r : EndReason) (s : State) (a : Nat) :
    fbByte (endLoop l r s) a = fbByte s a := rfl
@[simp] theorem fbByte_stopAction (s : State) (a : Nat) : fbByte (stopAction s) a = fbByte s a := rfl
@[simp] theorem fbByte_raiseFatal (k : FatalKind) (s : State) (a : Nat) :
    fbByte (raiseFatal k s) a = fbByte s a := rfl
@[simp] theorem fbByte_startLoop (s : State) (a : Nat) : fbByte (startLoop s) a = fbByte s a := rfl
@[simp] theorem fbByte_scanByte (b : Byte) (s : State) (a : Nat) : fbByte (scanByte b s) a = fbByte s a := rfl

@[simp] theorem fbByte_storeByte (a c : Nat) (b : Byte) (s : State) :
    fbByte (storeByte a b s) c = if c = a then b else fbByte s c := fbByte_memWrite s a c b

/-- The stop action in one update (R165). -/
theorem stopAction_eq (s : State) : stopAction s =
    { s with conn := .closed, loop := .stopped, stopPending := false, lineLen := 0, lineMatch := true, rdCnt := 0
             trace := s.trace ++ [.closeReq, .ended .stopped] } := by
  simp [stopAction, endLoop, lineReset, emit]

/-- Fatal termination in one update (R181). -/
theorem raiseFatal_eq (k : FatalKind) (s : State) : raiseFatal k s =
    { s with conn := .closed, loop := .terminated, stopPending := false, lineLen := 0, lineMatch := true, rdCnt := 0
             lastError := k.error, trace := s.trace ++ [.closeReq, .ended k.reason] } := by
  simp [raiseFatal, endLoop, lineReset, emit]

/-- `nextIfHeld` answers a next state exactly when `loop` is held, and then the one given. -/
theorem nextIfHeld_eq_next {s t u : State} :
    nextIfHeld s t = .next u ↔ s.loop.held = true ∧ t = u := by
  unfold nextIfHeld; split <;> simp [*]

/-- Running states are held. -/
theorem Loop.held_of_running {l : Loop} (h : l.running = true) : l.held = true := by
  cases l <;> simp_all [Loop.running, Loop.held]

theorem Loop.running_iff {l : Loop} : l.running = true ↔ l = .syncing ∨ l = .reading := by
  cases l <;> simp [Loop.running]

theorem Loop.held_not_running_iff {l : Loop} :
    (l.held = true ∧ l.running = false) ↔ l = .idle ∨ l = .stopped ∨ l = .terminated := by
  cases l <;> simp [Loop.running, Loop.held]

/-- What `readError` does (R179, R180). -/
theorem readError_running {s : State} (k : FatalKind) (h : s.loop.running = true) :
    readError k s = raiseFatal k s := by simp [readError, h]

theorem readError_ignored {s : State} (k : FatalKind) (h : s.loop.running = false) :
    readError k s = s := by simp [readError, h]

/-- The field map of R120, case by case. -/
theorem bodyRole_payload {n c : Nat} (h : c < 2 * n) : bodyRole n c = some (.payload c) := by
  simp [bodyRole, h]

theorem bodyRole_delimiter1 (n : Nat) : bodyRole n (2 * n) = some .delimiter1 := by
  simp [bodyRole]

theorem bodyRole_timing {n c : Nat} (h : 2 * n < c) (h' : c ≤ 2 * n + 4) :
    bodyRole n c = some (.timing (c - 1)) := by
  simp [bodyRole, h', Nat.not_lt.2 h.le, h.ne']

theorem bodyRole_delimiter2 (n : Nat) : bodyRole n (2 * n + 5) = some .delimiter2 := by
  simp [bodyRole]

theorem bodyRole_none {n c : Nat} (h : 2 * n + 5 < c) : bodyRole n c = none := by
  unfold bodyRole
  split_ifs <;> first | rfl | omega

/-- Every position of a body has one role (R120). -/
theorem bodyRole_cases (n c : Nat) :
    (c < 2 * n ∧ bodyRole n c = some (.payload c)) ∨
    (c = 2 * n ∧ bodyRole n c = some .delimiter1) ∨
    (2 * n < c ∧ c ≤ 2 * n + 4 ∧ bodyRole n c = some (.timing (c - 1))) ∨
    (c = 2 * n + 5 ∧ bodyRole n c = some .delimiter2) ∨
    (2 * n + 5 < c ∧ bodyRole n c = none) := by
  rcases lt_trichotomy c (2 * n) with h | h | h
  · exact .inl ⟨h, bodyRole_payload h⟩
  · exact .inr (.inl ⟨h, h ▸ bodyRole_delimiter1 n⟩)
  · by_cases h4 : c ≤ 2 * n + 4
    · exact .inr (.inr (.inl ⟨h, h4, bodyRole_timing h h4⟩))
    · by_cases h5 : c = 2 * n + 5
      · exact .inr (.inr (.inr (.inl ⟨h5, h5 ▸ bodyRole_delimiter2 n⟩)))
      · exact .inr (.inr (.inr (.inr ⟨by omega, bodyRole_none (by omega)⟩)))

/-- `MemRead` of no byte, and of one byte more (R48). -/
@[simp] theorem memRead_zero (s : State) (a : Nat) : memRead s a 0 = 0 := rfl

theorem memRead_succ (s : State) (a n : Nat) :
    memRead s a (n + 1) = (fbByte s a).toNat + 256 * memRead s (a + 1) n := rfl

/-- `MemRead` depends only on the bytes it reads. -/
theorem memRead_congr {s t : State} {a n : Nat} (h : ∀ c, a ≤ c → c < a + n → fbByte t c = fbByte s c) :
    memRead t a n = memRead s a n := by
  induction n generalizing a with
  | zero => rfl
  | succ n ih =>
    rw [memRead_succ, memRead_succ, h a le_rfl (by omega), ih (fun c h1 h2 => h c (by omega) (by omega))]

/-- A value of `n` bytes fits `n` bytes (R145). -/
theorem memRead_lt (s : State) (a n : Nat) : memRead s a n < 256 ^ n := by
  induction n generalizing a with
  | zero => simp
  | succ n ih =>
    have h1 := ih (a + 1)
    have h2 := (fbByte s a).isLt
    rw [memRead_succ, pow_succ]; omega

@[simp] theorem samples_length (s : State) : (samples s).length = s.cfg.n := by simp [samples]

end Sys2Proof.Machine
end

