-- ==== Sys2Proof/Laws/Exec.lean ====
section
/-!
SUPPORT. What an event can do, said once: `Effect` has one constructor per cell of the step table
(44_acquisition_loop.md R156), and `exec` answers a next state exactly as `Effect` says.
-/

namespace Sys2Proof.Machine

/-- The state after delivery of delimiter 2, before the loop's next value is chosen (R125). -/
abbrev frameEmitted (s : State) : State := lineReset { emit (decodedFrame s) s with rdCnt := 0 }

/-- `Effect s i t`: event `i` takes state `s` to `t`, by the rule each constructor names. -/
inductive Effect (s : State) : Instr → State → Prop
  /-- R106. -/
  | scan (b) (hl : s.loop = .syncing) (hb : b ≠ LF) : Effect s (.rxByte b) (scanByte b s)
  /-- R107, the line equals the Marker. -/
  | marker (hl : s.loop = .syncing) (hm : s.lineMatch = true) (hk : s.lineLen = 36) :
      Effect s (.rxByte LF) (lineReset { s with loop := .reading, rdCnt := 0 })
  /-- R107, the line is discarded. -/
  | discard (hl : s.loop = .syncing) (hm : ¬(s.lineMatch = true ∧ s.lineLen = 36)) :
      Effect s (.rxByte LF) (lineReset s)
  /-- R121. -/
  | payload (b) (hl : s.loop = .reading) (hc : s.rdCnt < 2 * s.cfg.n) :
      Effect s (.rxByte b) (storeByte s.rdCnt b s)
  /-- R122. -/
  | delimiter1 (b) (hl : s.loop = .reading) (hc : s.rdCnt = 2 * s.cfg.n) :
      Effect s (.rxByte b) (advance s)
  /-- R123. -/
  | timing (b) (hl : s.loop = .reading) (hc : 2 * s.cfg.n < s.rdCnt) (hd : s.rdCnt ≤ 2 * s.cfg.n + 4) :
      Effect s (.rxByte b) (storeByte (s.rdCnt - 1) b s)
  /-- R125, no stop pending. -/
  | frame (b) (hl : s.loop = .reading) (hc : s.rdCnt = 2 * s.cfg.n + 5) (hp : s.stopPending = false) :
      Effect s (.rxByte b) { frameEmitted s with loop := .syncing }
  /-- R125, a stop pending. -/
  | frameStop (b) (hl : s.loop = .reading) (hc : s.rdCnt = 2 * s.cfg.n + 5) (hp : s.stopPending = true) :
      Effect s (.rxByte b) (stopAction (frameEmitted s))
  /-- R179, running. -/
  | timeout (x) (hr : s.loop.running = true) : Effect s (.rxTimeout x) (raiseFatal .timeout s)
  /-- R179, not running. -/
  | timeoutIgnored (x) (hh : s.loop.held = true) (hr : s.loop.running = false) : Effect s (.rxTimeout x) s
  /-- R180, running. -/
  | ioFailure (x) (hr : s.loop.running = true) : Effect s (.rxIofail x) (raiseFatal .ioFailure s)
  /-- R180, not running. -/
  | ioFailureIgnored (x) (hh : s.loop.held = true) (hr : s.loop.running = false) : Effect s (.rxIofail x) s
  /-- R91. -/
  | openOk (x) (hh : s.loop.held = true) (hc : s.conn = .closed) :
      Effect s (.openOk x) (accept { s with conn := .opened })
  /-- R93. -/
  | openOkRejected (x) (hh : s.loop.held = true) (hc : s.conn = .opened) : Effect s (.openOk x) (reject s)
  /-- R92. -/
  | openFail (x) (hh : s.loop.held = true) (hc : s.conn = .closed) :
      Effect s (.openFail x) (accept { s with lastError := .portUnavailable })
  /-- R93. -/
  | openFailRejected (x) (hh : s.loop.held = true) (hc : s.conn = .opened) : Effect s (.openFail x) (reject s)
  /-- R94, a connection is open. -/
  | close (x) (hh : s.loop.held = true) (hr : s.loop.running = false) (hc : s.conn = .opened) :
      Effect s (.close x) (accept { emit .closeReq s with conn := .closed })
  /-- R94, none is open. -/
  | closeClosed (x) (hh : s.loop.held = true) (hr : s.loop.running = false) (hc : s.conn = .closed) :
      Effect s (.close x) (accept s)
  /-- R95. -/
  | closeRejected (x) (hr : s.loop.running = true) : Effect s (.close x) (reject s)
  /-- R160. -/
  | start (x) (hh : s.loop.held = true) (hr : s.loop.running = false) (hc : s.conn = .opened) :
      Effect s (.start x) (startLoop s)
  /-- R161. -/
  | startRejected (x) (hh : s.loop.held = true) (hc : s.conn = .closed ∨ s.loop.running = true) :
      Effect s (.start x) (reject s)
  /-- R164. -/
  | stop (x) (hl : s.loop = .syncing) : Effect s (.stop x) (accept (stopAction s))
  /-- R166. -/
  | stopDeferred (x) (hl : s.loop = .reading) : Effect s (.stop x) (accept { s with stopPending := true })
  /-- R167. -/
  | stopIdle (x) (hh : s.loop.held = true) (hr : s.loop.running = false) : Effect s (.stop x) (accept s)
  /-- R77, kind 0x0. -/
  | reserved0 (x) (hh : s.loop.held = true) : Effect s (.reserved0 x) (reject s)
  /-- R77, kinds 0x8 to 0xF. -/
  | reserved8F (k x) (hh : s.loop.held = true) : Effect s (.reserved8F k x) (reject s)

/-- If an event answers a next state, some cell of the step table says which. -/
theorem exec_effect {i : Instr} {s t : State} (h : exec i s = .next t) : Effect s i t := by
  cases i with
  | rxByte b =>
    rcases hl : s.loop with _ | _ | _ | _ | _ | _ | _ | _ <;>
      simp only [exec, execRxByte, hl, Host.Outcome.next.injEq, reduceCtorEq] at h
    · subst h
      unfold scan
      split
      · subst b
        unfold scanLf
        split
        · exact .marker hl (by tauto) (by tauto)
        · exact .discard hl ‹_›
      · exact .scan b hl ‹_›
    · unfold readByte at h
      rcases bodyRole_cases s.cfg.n s.rdCnt with ⟨h1, h2⟩ | ⟨h1, h2⟩ | ⟨h1, h3, h2⟩ | ⟨h1, h2⟩ | ⟨h1, h2⟩ <;>
        simp only [h2, Host.Outcome.next.injEq, reduceCtorEq] at h <;> subst h
      · exact .payload b hl h1
      · exact .delimiter1 b hl h1
      · exact .timing b hl h1 h3
      · unfold completeFrame
        split
        · exact .frameStop b hl h1 ‹_›
        · exact .frame b hl h1 (by simpa using ‹¬s.stopPending = true›)
  | rxTimeout x =>
    obtain ⟨hh, rfl⟩ := nextIfHeld_eq_next.1 h
    rcases hr : s.loop.running
    · rw [readError_ignored _ hr]; exact .timeoutIgnored x hh hr
    · rw [readError_running _ hr]; exact .timeout x hr
  | rxIofail x =>
    obtain ⟨hh, rfl⟩ := nextIfHeld_eq_next.1 h
    rcases hr : s.loop.running
    · rw [readError_ignored _ hr]; exact .ioFailureIgnored x hh hr
    · rw [readError_running _ hr]; exact .ioFailure x hr
  | openOk x =>
    obtain ⟨hh, rfl⟩ := nextIfHeld_eq_next.1 h
    split
    · exact .openOk x hh ‹_›
    · exact .openOkRejected x hh ‹_›
  | openFail x =>
    obtain ⟨hh, rfl⟩ := nextIfHeld_eq_next.1 h
    split
    · exact .openFail x hh ‹_›
    · exact .openFailRejected x hh ‹_›
  | close x =>
    obtain ⟨hh, rfl⟩ := nextIfHeld_eq_next.1 h
    rcases hr : s.loop.running
    · rcases hc : s.conn
      · simpa [hr, closeConnection, hc] using Effect.closeClosed x hh hr hc
      · simpa [hr, closeConnection, hc] using Effect.close x hh hr hc
    · simpa [hr] using Effect.closeRejected x hr
  | start x =>
    obtain ⟨hh, rfl⟩ := nextIfHeld_eq_next.1 h
    rcases hc : s.conn
    · simpa using Effect.startRejected x hh (.inl hc)
    · rcases hr : s.loop.running
      · simpa [hr] using Effect.start x hh hr hc
      · simpa [hr] using Effect.startRejected x hh (.inr hr)
  | stop x =>
    obtain ⟨hh, rfl⟩ := nextIfHeld_eq_next.1 h
    split
    · exact .stop x ‹_›
    · exact .stopDeferred x ‹_›
    all_goals exact .stopIdle x hh (by simp [*, Loop.running])
  | reserved0 x =>
    obtain ⟨hh, rfl⟩ := nextIfHeld_eq_next.1 h
    exact .reserved0 x hh
  | reserved8F k x =>
    obtain ⟨hh, rfl⟩ := nextIfHeld_eq_next.1 h
    exact .reserved8F k x hh

/-- RX_BYTE while scanning, a byte that is not LF (R106). -/
theorem exec_rxByte_scan {b : Byte} {s : State} (h : s.loop = .syncing) (hb : b ≠ LF) :
    exec (.rxByte b) s = .next (scanByte b s) := by simp [exec, execRxByte, h, scan, hb]

/-- RX_BYTE while scanning, LF (R107). -/
theorem exec_rxByte_lf {s : State} (h : s.loop = .syncing) : exec (.rxByte LF) s = .next (scanLf s) := by
  simp [exec, execRxByte, h, scan]

theorem scanLf_marker {s : State} (h : s.lineMatch = true ∧ s.lineLen = 36) :
    scanLf s = lineReset { s with loop := .reading, rdCnt := 0 } := if_pos h

theorem scanLf_discard {s : State} (h : ¬(s.lineMatch = true ∧ s.lineLen = 36)) :
    scanLf s = lineReset s := if_neg h

/-- RX_BYTE in READING is the frame reader's (R120). -/
theorem exec_rxByte_reading (b : Byte) {s : State} (h : s.loop = .reading) :
    exec (.rxByte b) s = readByte b s := by simp [exec, execRxByte, h]

/-- An event does not see the inputs still to come (R59, R185). -/
theorem exec_input (i : Instr) (s : State) (r : List Input) :
    exec i { s with input := r } = match exec i s with
      | .next t => .next { t with input := r }
      | .fault f => .fault f
      | .refused f => .refused f := by
  obtain ⟨cfg, loop, conn, ll, lm, rc, fb, sp, le, ce, inp, tr, fd⟩ := s
  cases i with
  | rxByte b =>
    cases loop <;> simp only [exec, execRxByte, readByte, scan, scanLf]
    · split
      · split <;> rfl
      · rfl
    · cases bodyRole cfg.n rc with
      | none => rfl
      | some x => cases x <;> try rfl
                  cases sp <;> rfl
  | _ x =>
    cases loop <;> cases conn <;> 
      simp [exec, execRxTimeout, execRxIofail, execOpenOk, execOpenFail, openCommand, execClose, execStart, execStop, execReserved0, execReserved8F,
      nextIfHeld, readError, Loop.held, Loop.running, closeConnection, accept, reject, raiseFatal_eq, stopAction_eq,
      startLoop, emit, lineReset]

/-- What `step` can do: the event at the port, or the reset input. -/
theorem step_cases {s t : State} (h : step s = .next t) :
    s.cfg.wf = true ∧
    ((∃ ev rest, s.input = .event ev :: rest ∧ exec (decode ev) { s with input := rest } = .next t) ∨
     (∃ lost rest, s.input = .reset lost :: rest ∧ t = resetInput { s with input := rest })) := by
  unfold step takeInput at h
  split at h
  · refine ⟨‹_›, ?_⟩
    rcases hi : s.input with _ | ⟨_ | lost, rest⟩ <;> simp only [hi, Host.Outcome.next.injEq, reduceCtorEq] at h
    · exact .inl ⟨_, rest, rfl, h⟩
    · exact .inr ⟨lost, rest, rfl, h.symm⟩
  · cases h

end Sys2Proof.Machine
end

