-- ==== Sys2Proof/Laws/PerInstr.lean ====
section
/-!
SUPPORT. The family EncodingMatchesRow, one lemma per constructor of `Instr`: an event's word is of the row
of R88's table that bears the event's mnemonic.
-/

namespace Sys2Proof.Laws.EncodingMatchesRow

/-- Some row of the table has the event's mnemonic and matches its word (R71, R88). -/
def Statement (i : Instr) : Prop :=
  ∃ r ∈ opcodeRows, r.mnemonic = i.mnemonic ∧ rowMatches r (encode i) = true

theorem rxByte (b : BitVec 8) : Statement (.rxByte b) :=
  ⟨⟨"RX_BYTE", 0x100, 0xF00⟩, by decide, rfl, by revert b; decide +kernel⟩

theorem rxTimeout (x : BitVec 8) : Statement (.rxTimeout x) :=
  ⟨⟨"RX_TIMEOUT", 0x200, 0xF00⟩, by decide, rfl, by revert x; decide +kernel⟩

theorem rxIofail (x : BitVec 8) : Statement (.rxIofail x) :=
  ⟨⟨"RX_IOFAIL", 0x300, 0xF00⟩, by decide, rfl, by revert x; decide +kernel⟩

theorem openOk (x : BitVec 7) : Statement (.openOk x) :=
  ⟨⟨"OPEN_OK", 0x401, 0xF01⟩, by decide, rfl, by revert x; decide +kernel⟩

theorem openFail (x : BitVec 7) : Statement (.openFail x) :=
  ⟨⟨"OPEN_FAIL", 0x400, 0xF01⟩, by decide, rfl, by revert x; decide +kernel⟩

theorem close (x : BitVec 8) : Statement (.close x) :=
  ⟨⟨"CLOSE", 0x500, 0xF00⟩, by decide, rfl, by revert x; decide +kernel⟩

theorem start (x : BitVec 8) : Statement (.start x) :=
  ⟨⟨"START", 0x600, 0xF00⟩, by decide, rfl, by revert x; decide +kernel⟩

theorem stop (x : BitVec 8) : Statement (.stop x) :=
  ⟨⟨"STOP", 0x700, 0xF00⟩, by decide, rfl, by revert x; decide +kernel⟩

theorem reserved0 (x : BitVec 8) : Statement (.reserved0 x) :=
  ⟨⟨"RESERVED_0", 0x000, 0xF00⟩, by decide, rfl, by revert x; decide +kernel⟩

theorem reserved8F (k : BitVec 3) (x : BitVec 8) : Statement (.reserved8F k x) :=
  ⟨⟨"RESERVED_8_F", 0x800, 0x800⟩, by decide, rfl, by revert k x; decide +kernel⟩

end Sys2Proof.Laws.EncodingMatchesRow
end

