-- ==== Sys2Proof/Laws/Run.lean ====
section
/-!
SUPPORT. Runs, one step or one event at a time.
-/

namespace Sys2Proof.Machine

theorem run_zero (s : State) : core.run 0 s = .next s := rfl

theorem run_succ (k : Nat) (s : State) : core.run (k + 1) s =
    match step s with
    | .next t => core.run k t
    | .fault r => .fault r
    | .refused r => .refused r := by
  cases h : step s <;> simp [Host.Core.run, core, h]

@[simp] theorem execAll_nil (s : State) : execAll [] s = .next s := rfl

theorem execAll_cons_next {i : Instr} {is : List Instr} {s t : State} (h : exec i s = .next t) :
    execAll (i :: is) s = execAll is t := by simp [execAll, h]

/-- A run over two lists of events is a run over the first and then over the second. -/
theorem execAll_append_next {is js : List Instr} {s t : State} (h : execAll is s = .next t) :
    execAll (is ++ js) s = execAll js t := by
  induction is generalizing s with
  | nil => cases h; rfl
  | cons i is ih =>
    simp only [execAll, List.cons_append] at h ⊢
    cases hx : exec i s <;> simp only [hx, reduceCtorEq] at h
    exact ih h

@[simp] theorem receive_nil (s : State) : receive [] s = .next s := rfl

theorem receive_cons_next {b : Byte} {bs : List Byte} {s t : State} (h : exec (.rxByte b) s = .next t) :
    receive (b :: bs) s = receive bs t := execAll_cons_next h

theorem receive_append_next {as bs : List Byte} {s t : State} (h : receive as s = .next t) :
    receive (as ++ bs) s = receive bs t := by
  unfold receive at *; rw [List.map_append]; exact execAll_append_next h

end Sys2Proof.Machine
end

