-- ==== Sys2Proof/Tests/Slice0.lean ====
section
/-!
SUPPORT. Tests: words and steps of 95_test_vectors.md, the smoke test of the checks, and one witness per
statement that has hypotheses. Vectors use `N = 4` (or 1) and the Marker of 95_test_vectors.md section 0.
-/

namespace Sys2Proof.Tests

open Sys2Proof.Machine

/-! ## Helpers -/

/-- The parameters of the vectors, section 0. -/
def p4 : Params := ⟨4, Config.exampleMarker⟩

/-- The parameters of vector D-2 and program P6. -/
def p1 : Params := ⟨1, Config.exampleMarker⟩

/-- A state with the given parameters, `loop`, `conn` and rd_cnt, otherwise as after reset. -/
def st (p : Params) (l : Loop) (c : Conn) (k : Nat) : State :=
  { State.resetWith p with loop := l, conn := c, rdCnt := k }

/-- FB after 13 bytes of L1-1's body. -/
def fbL1 : Memory :=
  [(0, 0x08), (1, 0x00), (2, 0x10), (3, 0x00), (4, 0x18), (5, 0x00), (6, 0x20), (7, 0x00),
   (8, 0x01), (9, 0x00), (10, 0x00), (11, 0x00)]

/-- STATUS and trace after a next state. -/
def shown : Outcome → Option (BitVec 8 × List OutEvent)
  | .next t => some (statusWord t, t.trace)
  | .fault _ => none
  | .refused _ => none

/-- line_len, line_match and rd_cnt after a next state. -/
def counters : Outcome → Option (Nat × Bool × Nat)
  | .next t => some (t.lineLen, t.lineMatch, t.rdCnt)
  | .fault _ => none
  | .refused _ => none

/-- FB after a next state. -/
def fbOf : Outcome → Option Memory
  | .next t => some t.fb
  | .fault _ => none
  | .refused _ => none

/-- The refusal a step answered. -/
def refusalOf : Outcome → Option Refusal
  | .refused r => some r
  | .next _ => none
  | .fault _ => none

/-! ## Decoding: each constructor's word, written from R88 -/

theorem test_decode_rxByte : decode 0b000101000001 = .rxByte 0x41 := by decide
theorem test_decode_rxTimeout : decode 0b001000000101 = .rxTimeout 0x05 := by decide
theorem test_decode_rxIofail : decode 0b001110000000 = .rxIofail 0x80 := by decide
theorem test_decode_openOk : decode 0b010011111111 = .openOk 0x7F := by decide
theorem test_decode_openFail : decode 0b010011111110 = .openFail 0x7F := by decide
theorem test_decode_close : decode 0b010100000000 = .close 0 := by decide
theorem test_decode_start : decode 0b011000000001 = .start 1 := by decide
theorem test_decode_stop : decode 0b011100010000 = .stop 0x10 := by decide
theorem test_decode_reserved0 : decode 0b000011111111 = .reserved0 0xFF := by decide
theorem test_decode_reserved8 : decode 0b100011111111 = .reserved8F 0 0xFF := by decide
theorem test_decode_reservedF : decode 0b111101010101 = .reserved8F 7 0x55 := by decide
theorem test_decodeTableWord : decodeTableWord 16 0x4FF = some (.openOk 0x7F) := by decide
theorem test_decodeBits_refuses_bit_12 : decodeBits 0x1141 = .error .widerThanTwelveBits := rfl
theorem test_opcodeRows_disjoint :
    opcodeRows.Pairwise (fun r r' => (r.pat ^^^ r'.pat) &&& (r.mask &&& r'.mask) ≠ 0) := by decide

/-! ## The checks refuse an ill-formed term each -/

theorem test_wf_vectors : p4.wf = true ∧ p1.wf = true ∧ Config.defaultParams.wf = true := by decide
theorem test_wf_refuses_n_zero : (Params.mk 0 Config.exampleMarker).nInRange = false := by decide
theorem test_wf_refuses_n_large : (Params.mk 65536 Config.exampleMarker).nInRange = false := by decide
theorem test_wf_refuses_length : (Params.mk 4 [LF]).markerLength = false := by decide
theorem test_wf_refuses_no_lf : (Params.mk 4 (List.replicate 37 0x41)).markerEndsInLf = false := by decide
theorem test_wf_refuses_inner_lf :
    (Params.mk 4 (LF :: List.replicate 35 0x41 ++ [LF])).markerHasNoInnerLf = false := by decide
theorem test_ignored_bits_set : (Instr.stop 1).ignoredBitsZero = false := by decide

/-! ## One step -/

/-- S-10: the first byte of the Marker. -/
theorem test_rxByte_scans : counters (exec (.rxByte 0x41) (st p4 .syncing .opened 0)) = some (1, true, 0) := by
  decide

/-- L1-1: delimiter 2 emits the frame. -/
theorem test_rxByte_frame :
    shown (exec (.rxByte 0xFF) { st p4 .reading .opened 13 with fb := fbL1 }) =
      some (0x09, [.frame [8, 16, 24, 32] 1]) := by decide

/-- Table 2.3: the first timing byte, `c = 9`, is `FB[8]`. -/
theorem test_storeByte_timing :
    fbOf (exec (.rxByte 0x01) (st p4 .reading .opened 9)) = some [(8, 0x01)] := by decide

/-- B-14: no byte is taken in IDLE. -/
theorem test_rxByte_idle : refusalOf (exec (.rxByte 0x41) (State.resetWith p4)) = some .rxNotReady := by decide

/-- L1-2a. -/
theorem test_rxTimeout : shown (exec (.rxTimeout 0) (st p4 .reading .opened 0)) =
    some (0x24, [.closeReq, .ended .timeout]) := by decide

/-- E-7. -/
theorem test_rxTimeout_ignored : shown (exec (.rxTimeout 0) (State.resetWith p4)) = some (0x00, []) := by decide

/-- R-10. -/
theorem test_rxIofail : shown (exec (.rxIofail 0) (st p4 .reading .opened 10)) =
    some (0x34, [.closeReq, .ended .ioFailure]) := by decide

/-- B-1. -/
theorem test_openOk : shown (exec (.openOk 0) (State.resetWith p4)) = some (0x08, []) := by decide

/-- B-10: OPEN while running is rejected. -/
theorem test_openOk_rejected : shown (exec (.openOk 0) (st p4 .syncing .opened 0)) = some (0x89, []) := by decide

/-- B-2. -/
theorem test_openFail : shown (exec (.openFail 0) (State.resetWith p4)) = some (0x10, []) := by decide

/-- B-6. -/
theorem test_close : shown (exec (.close 0) (st p4 .idle .opened 0)) = some (0x00, [.closeReq]) := by decide

/-- B-8. -/
theorem test_close_rejected : shown (exec (.close 0) (st p4 .syncing .opened 0)) = some (0x89, []) := by decide

/-- A-2. -/
theorem test_start : shown (exec (.start 0) (st p4 .idle .opened 0)) = some (0x09, [.flushReq]) := by decide

/-- A-1. -/
theorem test_start_rejected : shown (exec (.start 0) (State.resetWith p4)) = some (0x80, []) := by decide

/-- A-4. -/
theorem test_stop : shown (exec (.stop 0) (st p4 .syncing .opened 0)) =
    some (0x03, [.closeReq, .ended .stopped]) := by decide

/-- R-11. -/
theorem test_stop_deferred : shown (exec (.stop 0) (st p4 .reading .opened 3)) = some (0x4A, []) := by decide

/-- A-14. -/
theorem test_reserved0 : shown (exec (.reserved0 0) (State.resetWith p4)) = some (0x80, []) := by decide

/-- A-15's second word. -/
theorem test_reserved8F : shown (exec (.reserved8F 7 0x55) (st p4 .idle .opened 0)) = some (0x88, []) := by decide

/-- The first event after reset: START is rejected (A-1). -/
theorem test_step_from_reset : shown (step (State.reset.withFetchWord 16 0x600)) = some (0x80, []) := by decide

/-- Z-1: reset in a body; Z-3: the byte that arrives with it is lost. -/
theorem test_step_reset : shown (step { st p4 .reading .opened 6 with input := [.reset (some 0x108)] }) =
    some (0x00, []) := by decide

/-- Section 2.4's u32 column: `EF BE AD DE`. -/
theorem test_timing : timing { st p1 .reading .opened 0 with
    fb := [(2, 0xEF), (3, 0xBE), (4, 0xAD), (5, 0xDE)] } = 0xDEADBEEF := by decide

/-- R85, R86: a line with a comment, and a string. -/
theorem test_script_open : assemble p4 ['O', 'p', 'e', 'n', ' ', 'o', 'k', ' ', ';', ' ', 'x'] = .ok [0x401] := rfl
theorem test_script_line : assemble p4 ['l', 'i', 'n', 'e', ' ', '"', 'a', 'b', '"'] = .ok [0x161, 0x162, 0x10A] := rfl
/-- Log entry 13: `bytes` alone stands for no event. -/
theorem test_script_bytes_without_operand : assemble p4 ['b', 'y', 't', 'e', 's'] = .ok [] := rfl
theorem test_script_word : assemble p4 ['.', 'w', 'o', 'r', 'd', ' ', '0', 'x', 'F', '5', '5'] = .ok [0xF55] := rfl

/-! ## Witnesses: states and operands that meet the hypotheses of each statement together -/

theorem test_witness_IgnoredDataBitsGiveTheSameStep :
    evKind 0x4FF = evKind 0x401 ∧ evKind 0x4FF ≠ 1 ∧ evKind 0x4FF = 4 ∧
    (0x4FF : EventWord).getLsbD 0 = (0x401 : EventWord).getLsbD 0 ∧
    evKind 0x2FF = evKind 0x200 ∧ evKind 0x2FF ≠ 1 := by decide

theorem test_witness_EveryWordIsOfExactlyOneRow :
    evKind 0x4FE = evKind 0x400 ∧ (0x4FE : EventWord).getLsbD 0 = (0x400 : EventWord).getLsbD 0 := by decide

theorem test_witness_StepRunsTheDecodedEvent :
    (State.reset.withFetchWord 16 0x401).cfg.wf = true ∧
    (State.reset.withFetchWord 16 0x401).input = [.event 0x401] ∧ decode 0x401 = .openOk 0 := by decide

theorem test_witness_StepRefusesWithoutEventOrParams :
    (State.reset.cfg.wf = true ∧ State.reset.input = []) ∧ (st ⟨0, []⟩ .idle .closed 0).cfg.wf = false := by decide

theorem test_witness_StepsRunTheDeliveredEventsInOrder :
    (State.resetWith p4).cfg.wf = true ∧ (State.resetWith p4).input = [] := by decide

theorem test_witness_OnlyAByteWhileNotReadyHasNoStep :
    ((st p4 .terminated .closed 0).loop.held = true ∧ rxReady (st p4 .terminated .closed 0) = false) ∧
    (rxReady (st p4 .reading .opened 13) = true ∧
      (st p4 .reading .opened 13).rdCnt ≤ 2 * (st p4 .reading .opened 13).cfg.n + 5) ∧
    (st p4 .idle .closed 0).loop.held = true ∧ ∀ b, Instr.stop 0 ≠ .rxByte b :=
  ⟨by decide, by decide, by decide, fun _ h => by cases h⟩

theorem test_witness_NeverHeldLoopFaults :
    (st p4 .never5 .closed 0).loop.held = false ∧
    (st p4 .reading .opened 14).loop = .reading ∧ 2 * p4.n + 5 < (st p4 .reading .opened 14).rdCnt := by decide

theorem test_witness_ResetInputActsInEveryState :
    (st p4 .never7 .opened 99).cfg.wf = true ∧
    { st p4 .never7 .opened 99 with input := [.reset none, .event 0x700] }.input = .reset none :: [.event 0x700] := by
  decide

/-- OpenOkOpensAClosedConnection, OpenFailRecordsPortUnavailable. -/
theorem test_witness_OpenWhenClosed :
    (st p4 .stopped .closed 0).loop.held = true ∧ (st p4 .stopped .closed 0).conn = .closed := by decide

theorem test_witness_OpenWhenOpenIsRejected :
    (st p4 .syncing .opened 0).loop.held = true ∧ (st p4 .syncing .opened 0).conn = .opened := by decide

theorem test_witness_CloseWhenNotRunning :
    ((st p4 .idle .opened 0).loop = .idle ∧ (st p4 .idle .opened 0).conn = .opened) ∧
    (st p4 .terminated .closed 0).loop = .terminated ∧ (st p4 .terminated .closed 0).conn = .closed := by decide

/-- CloseWhileRunningIsRejected, StopInSyncingEndsTheLoop, StopInReadingIsDeferred, TimeoutEndsARunningLoop and
IoFailureEndsARunningLoop (running), ReservedKindsAreRejected. -/
theorem test_witness_running :
    (st p4 .syncing .opened 0).loop = .syncing ∧ (st p4 .reading .opened 5).loop = .reading ∧
    (st p4 .reading .opened 5).loop.held = true := by decide

/-- StopWhenNotRunningIsAccepted, TimeoutEndsARunningLoop and IoFailureEndsARunningLoop (not running). -/
theorem test_witness_not_running : (st p4 .stopped .closed 0).loop = .stopped := by decide

theorem test_witness_SyncingByteAdvancesTheScan :
    (st p4 .syncing .opened 0).loop = .syncing ∧ (0x41 : Byte) ≠ 0x0A := by decide

theorem test_witness_SyncingLfEndsTheLine :
    (({ st p4 .syncing .opened 0 with lineLen := 36 } : State).lineMatch = true ∧
      ({ st p4 .syncing .opened 0 with lineLen := 36 } : State).lineLen = 36) ∧
    ¬((st p4 .syncing .opened 0).lineMatch = true ∧ (st p4 .syncing .opened 0).lineLen = 36) := by decide

/-- ScannerHoldsTheLineSoFar, ScannerAgreesWithLineComparison, FrameOnTheWireIsEmitted: the scanner at a line
start, with well-formed parameters, and bytes with no LF. -/
theorem test_witness_line_start :
    (st p4 .syncing .opened 0).cfg.wf = true ∧ (st p4 .syncing .opened 0).loop = .syncing ∧
    (st p4 .syncing .opened 0).lineLen = 0 ∧ (st p4 .syncing .opened 0).lineMatch = true ∧
    (st p4 .syncing .opened 0).stopPending = false ∧ LF ∉ List.replicate 37 (0x41 : Byte) := by decide

theorem test_witness_PayloadByteIsStored :
    (st p4 .reading .opened 7).loop = .reading ∧ (st p4 .reading .opened 7).rdCnt < 2 * p4.n := by decide

/-- Also DelimitersAreNotValidated, its first position. -/
theorem test_witness_DelimiterOneIsConsumed :
    (st p4 .reading .opened 8).loop = .reading ∧ (st p4 .reading .opened 8).rdCnt = 2 * p4.n := by decide

theorem test_witness_TimingByteIsStored :
    (2 * p4.n + 1 ≤ (st p4 .reading .opened 9).rdCnt ∧ (st p4 .reading .opened 9).rdCnt ≤ 2 * p4.n + 4) ∧
    2 * p4.n + 1 ≤ (st p4 .reading .opened 12).rdCnt ∧ (st p4 .reading .opened 12).rdCnt ≤ 2 * p4.n + 4 := by decide

/-- Also DelimitersAreNotValidated, its second position, and OutcomesOfSimultaneousEvents. -/
theorem test_witness_DelimiterTwoCompletesTheFrame :
    ((st p4 .reading .opened 13).loop = .reading ∧ (st p4 .reading .opened 13).rdCnt = 2 * p4.n + 5 ∧
      (st p4 .reading .opened 13).stopPending = false) ∧
    ({ st p4 .reading .opened 13 with stopPending := true } : State).stopPending = true := by decide

/-- BodyEmitsTheFrameOfItsBytes, EarlierBytesOfFbNeverReachAnOutput, FailureInsideABodyEmitsNoFrame: the start of
a body, a whole body of `N = 1`, and a body one byte short. -/
theorem test_witness_body :
    (st p1 .reading .opened 0).loop = .reading ∧ (st p1 .reading .opened 0).rdCnt = 0 ∧
    (st p1 .reading .opened 0).stopPending = false ∧
    (List.replicate 8 (0x0A : Byte)).length = bodyLen p1.n ∧ (List.replicate 7 (0x0A : Byte)).length < bodyLen p1.n := by
  decide

/-- FrameOnTheWireIsEmitted. -/
theorem test_witness_samples_of_length_n : ([1, 2, 3, 4] : List U16).length = p4.n := by decide

/-- FB as `Decode`'s inverse writes L1-1's samples and timing. -/
theorem test_witness_DecodeIsInvertible :
    ([8, 16, 24, 32] : List U16).length = p4.n ∧
    (∀ i < 4, fbByte { st p4 .reading .opened 0 with fb := fbL1 } (2 * i) =
        (([8, 16, 24, 32] : List U16).getD i 0).extractLsb' 0 8 ∧
      fbByte { st p4 .reading .opened 0 with fb := fbL1 } (2 * i + 1) =
        (([8, 16, 24, 32] : List U16).getD i 0).extractLsb' 8 8) ∧
    ∀ k < 4, fbByte { st p4 .reading .opened 0 with fb := fbL1 } (8 + k) = (1 : U32).extractLsb' (8 * k) 8 := by
  decide

/-- Two states that decode alike. -/
theorem test_witness_DecodeIsInvertible_alike :
    samples { st p4 .reading .opened 0 with fb := fbL1 } = samples { st p4 .syncing .opened 0 with fb := fbL1 } ∧
    timing { st p4 .reading .opened 0 with fb := fbL1 } = timing { st p4 .syncing .opened 0 with fb := fbL1 } := by
  decide

/-- An event that stores a byte, with the address it stores at, and one that stores none. -/
theorem test_witness_FbChangesOnlyAtTheStoredByte :
    (∃ t, exec (.rxByte 0x01) (st p4 .reading .opened 9) = .next t ∧ fbStoreAddr (st p4 .reading .opened 9) = some 8) ∧
    (∃ t, exec (.rxByte 0x01) (st p4 .reading .opened 8) = .next t ∧ fbStoreAddr (st p4 .reading .opened 8) = none) ∧
    ∃ t, exec (.stop 0) (st p4 .reading .opened 9) = .next t :=
  ⟨⟨_, rfl, rfl⟩, ⟨_, rfl, rfl⟩, ⟨_, rfl⟩⟩

theorem test_witness_CanonicalFbIsDeterminedByItsReads : Memory.wf 12 fbL1 := by decide

theorem test_witness_StartBeginsALoop :
    (st p4 .terminated .opened 0).conn = .opened ∧ (st p4 .terminated .opened 0).loop = .terminated := by decide

theorem test_witness_StartWhenClosedOrRunningIsRejected :
    ((st p4 .idle .closed 0).loop.held = true ∧ (st p4 .idle .closed 0).conn = .closed) ∧
    (st p4 .reading .opened 5).loop.held = true ∧ (st p4 .reading .opened 5).loop = .reading := by decide

/-- A transition of `loop`, and a row of R155's table. -/
theorem test_witness_LoopMovesOnlyAlongTheTable :
    (∃ t, exec (.start 0) (st p4 .idle .opened 0) = .next t ∧ t.loop ≠ (st p4 .idle .opened 0).loop) ∧
    LoopTransition (st p4 .idle .opened 0) (.start 0) .syncing :=
  ⟨⟨_, rfl, by decide⟩, .start 0 (.inl rfl) rfl⟩

theorem test_witness_CmdErrorShowsWhetherTheLastCommandWasRejected :
    ∃ t, exec (.start 0) (State.resetWith p4) = .next t ∧ isCommand (.start 0) = true ∧
      isRejectedIn (State.resetWith p4) (.start 0) = true := ⟨_, rfl, rfl, rfl⟩

theorem test_witness_RejectedCommandsChangeOnlyCmdError :
    (st p4 .syncing .opened 0).loop.held = true ∧ isRejectedIn (st p4 .syncing .opened 0) (.close 0) = true := by decide

theorem test_witness_NoAutomaticRestart :
    (st p4 .stopped .opened 0).loop = .stopped ∧ ∃ t, exec (.start 0) (st p4 .stopped .opened 0) = .next t :=
  ⟨rfl, _, rfl⟩

/-- ReachableStatesSatisfyTheInvariants, OpenWhileEndedBreaksClauseEight, InvariantsHoldAtReset. -/
theorem test_witness_reachable : p4.wf = true ∧ Reachable p4 (State.resetWith p4) :=
  ⟨by decide, .reset []⟩

/-- TerminationIsReportedApartFromWaiting: a reachable state in each of its three values of `loop`. -/
theorem test_witness_TerminationIsReportedApartFromWaiting :
    (∃ s, Reachable p4 s ∧ s.loop = .syncing) ∧ (∃ s, Reachable p4 s ∧ s.loop = .stopped) ∧
    ∃ s, Reachable p4 s ∧ s.loop = .terminated :=
  ⟨⟨_, .step (.step (.reset [.event 0x401, .event 0x600]) rfl) rfl, rfl⟩,
   ⟨_, .step (.step (.step (.reset [.event 0x401, .event 0x600, .event 0x700]) rfl) rfl) rfl, rfl⟩,
   ⟨_, .step (.step (.step (.reset [.event 0x401, .event 0x600, .event 0x200]) rfl) rfl) rfl, rfl⟩⟩

theorem test_witness_EndOfALoopClosesTheConnection :
    ∃ t, exec (.rxIofail 0) (st p4 .reading .opened 3) = .next t ∧ t.loop ≠ .reading ∧ t.loop = .terminated :=
  ⟨_, rfl, by decide, rfl⟩

/-- Each kind of output: FRAME, FLUSH_REQ, CLOSE_REQ of a CLOSE, and each reason of END. -/
theorem test_witness_OutputsComeOnlyFromTheirRules :
    (∃ t, exec (.rxByte 0xFF) { st p4 .reading .opened 13 with fb := fbL1 } = .next t ∧
      OutEvent.frame [8, 16, 24, 32] 1 ∈ t.trace) ∧
    (∃ t, exec (.start 0) (st p4 .stopped .opened 0) = .next t ∧ t.trace = [.flushReq]) ∧
    (∃ t, exec (.close 0) (st p4 .idle .opened 0) = .next t ∧ t.trace = [.closeReq]) ∧
    (∃ t, exec (.stop 0) (st p4 .syncing .opened 0) = .next t ∧ t.trace = [.closeReq, .ended .stopped]) ∧
    (∃ t, exec (.rxTimeout 0) (st p4 .syncing .opened 0) = .next t ∧ t.trace = [.closeReq, .ended .timeout]) ∧
    ∃ t, exec (.rxIofail 0) (st p4 .reading .opened 13) = .next t ∧ t.trace = [.closeReq, .ended .ioFailure] :=
  ⟨⟨_, rfl, by decide⟩, ⟨_, rfl, rfl⟩, ⟨_, rfl, rfl⟩, ⟨_, rfl, rfl⟩, ⟨_, rfl, rfl⟩, _, rfl, rfl⟩

/-- A change of each field: last_error and rd_cnt, conn, the scanner, stop_pending. -/
theorem test_witness_FieldsAreWrittenOnlyByTheirRules :
    (∃ t, exec (.rxTimeout 0) (st p4 .reading .opened 3) = .next t ∧ t.lastError ≠ .none ∧ t.rdCnt ≠ 3) ∧
    (∃ t, exec (.openOk 0) (st p4 .idle .closed 0) = .next t ∧ t.conn ≠ .closed) ∧
    (∃ t, exec (.rxByte 0x42) (st p4 .syncing .opened 0) = .next t ∧ t.lineLen ≠ 0 ∧ t.lineMatch ≠ true) ∧
    ∃ t, exec (.stop 0) (st p4 .reading .opened 3) = .next t ∧ t.stopPending ≠ false :=
  ⟨⟨_, rfl, by decide, by decide⟩, ⟨_, rfl, by decide⟩, ⟨_, rfl, by decide, by decide⟩, _, rfl, by decide⟩

/-- The clause of OpenWhileEndedBreaksClauseEight on the events that keep clause 8. -/
theorem test_witness_OpenWhileEndedBreaksClauseEight :
    (∃ t, exec (.stop 0) (st p4 .syncing .opened 0) = .next t) ∧ (∀ x, Instr.stop 0 ≠ .openOk x) ∧
      ClosedWhenEnded (st p4 .syncing .opened 0) :=
  ⟨⟨_, rfl⟩, (fun _ h => by cases h), fun h => by rcases h with h | h <;> cases h⟩

/-- Also CountersFitTheirWidths: a state in the middle of a body that meets every invariant, and a step from it. -/
theorem test_witness_StepKeepsTheInvariants :
    Inv { st p1 .reading .opened 1 with fb := [(0, 0x34)], input := [.event 0x112] } ∧
    ∃ t, step { st p1 .reading .opened 1 with fb := [(0, 0x34)], input := [.event 0x112] } = .next t := by
  refine ⟨⟨by decide, ⟨fun _ => rfl, fun h => absurd rfl h, fun _ => ⟨rfl, rfl⟩, (fun h => by cases h),
    (fun _ => by decide), rfl, (fun _ => by decide)⟩, ⟨by decide, by decide, by decide, (fun _ => by decide),
    fun _ => rfl⟩⟩, _, rfl⟩

theorem test_witness_WireBytesCarryTheFrame : p4.wf = true ∧ ([1, 2, 3, 4] : List U16).length = p4.n := by decide

theorem test_witness_ScriptWritesIgnoredBitsAsZero :
    ScriptLine.words p4 .start = .ok [0x600] ∧ ∀ w, ScriptLine.start ≠ .word w :=
  ⟨rfl, fun _ h => by cases h⟩

end Sys2Proof.Tests
end

/-!
Proofs of the family 00_scope.md: the widths of the counters (R9, R11, R20), and the states in which no rule
gives an event a step (R14, R120; item U12).
-/

namespace Sys2Proof.Machine

/-! ## The width of rd_cnt -/

/-- `CNT_W` is R9's `ceil(log2(2*N + 6))`: the least width that holds `2N+6` values. -/
theorem cntWidth_le_iff {n w : Nat} : cntWidth n ≤ w ↔ 2 * n + 6 ≤ 2 ^ w := by
  have hlog : Nat.log2 (2 * n + 5) < w ↔ 2 * n + 5 < 2 ^ w := Nat.log2_lt (by omega)
  unfold cntWidth
  omega

/-- rd_cnt's largest value, `2N+5`, fits `CNT_W` bits. -/
theorem lt_two_pow_cntWidth {n c : Nat} (h : c ≤ 2 * n + 5) : c < 2 ^ cntWidth n := by
  have hfit : 2 * n + 6 ≤ 2 ^ cntWidth n := cntWidth_le_iff.1 le_rfl
  omega

/-- Settles O58: the ranges are `DataInv`'s, and `CNT_W` is the least width by `cntWidth_le_iff`. -/
theorem countersFitTheirWidths : Obligations.CountersFitTheirWidths := by
  intro s hs
  have hline : s.lineLen ≤ 37 := hs.data.lineLenBound
  exact ⟨by omega, lt_two_pow_cntWidth hs.data.rdCntRange, fun _ => cntWidth_le_iff.symm⟩

/-! ## States no rule covers -/

theorem nextIfHeld_of_not_held {s : State} (t : State) (h : s.loop.held = false) :
    nextIfHeld s t = .fault .loopNeverHeld := by simp [nextIfHeld, h]

theorem Loop.not_held_iff {l : Loop} : l.held = false ↔ l = .never5 ∨ l = .never6 ∨ l = .never7 := by
  cases l <;> simp [Loop.held]

/-- Every event but RX_BYTE has one next state, guarded by nothing but `loop` being held. -/
theorem exec_eq_nextIfHeld {i : Instr} (hi : ∀ b, i ≠ .rxByte b) (s : State) :
    ∃ t, exec i s = nextIfHeld s t := by
  cases i with
  | rxByte b => exact absurd rfl (hi b)
  | rxTimeout | rxIofail | openOk | openFail | close | start | stop | reserved0 | reserved8F => exact ⟨_, rfl⟩

theorem exec_rxByte_of_not_held (b : Byte) {s : State} (h : s.loop.held = false) :
    exec (.rxByte b) s = .fault .loopNeverHeld := by
  rcases Loop.not_held_iff.1 h with hl | hl | hl <;> simp [exec, execRxByte, hl]

/-- Item U12: no event has a step where `loop` is 5, 6 or 7. -/
theorem exec_of_not_held (i : Instr) {s : State} (h : s.loop.held = false) :
    exec i s = .fault .loopNeverHeld := by
  by_cases hi : ∃ b, i = .rxByte b
  · obtain ⟨b, rfl⟩ := hi
    exact exec_rxByte_of_not_held b h
  · obtain ⟨t, ht⟩ := exec_eq_nextIfHeld (not_exists.1 hi) s
    rw [ht, nextIfHeld_of_not_held t h]

/-- R14, R120: a body byte above position `2N+5` has no role, so no step. -/
theorem readByte_above_body (b : Byte) {s : State} (h : 2 * s.cfg.n + 5 < s.rdCnt) :
    readByte b s = .fault .rdCntOutOfRange := by simp [readByte, bodyRole_none h]

/-- Settles O9: `loop` at 5, 6 or 7 by `exec_of_not_held`, rd_cnt above `2N+5` by `readByte_above_body`. -/
theorem neverHeldLoopFaults : Obligations.NeverHeldLoopFaults := by
  refine ⟨fun i s hheld => exec_of_not_held i hheld, fun b s hl hc => ?_⟩
  rw [exec_rxByte_reading b hl, readByte_above_body b hc]

end Sys2Proof.Machine

/-!
Proofs of the family 10_state.md, its invariants: the fields' ranges and R35's clauses 1 to 7 hold after reset,
every step keeps them, so every reachable state has them.
-/

namespace Sys2Proof.Machine

/-! ## How much of FB a body has stored -/

/-- A payload byte at position `c` is stored right after the `c` bytes before it (R120, R121). -/
theorem bytesStored_of_le {n c : Nat} (h : c ≤ 2 * n) : bytesStored n c = c := by
  simp only [bytesStored]; omega

/-- Past delimiter 1, which is stored nowhere, one byte fewer is stored than was read (R120, R123). -/
theorem bytesStored_of_gt {n c : Nat} (h : 2 * n < c) : bytesStored n c = c - 1 := by
  simp only [bytesStored]; omega

/-! ## States the invariants hold in -/

theorem running_of_syncing {s : State} (h : s.loop = .syncing) : s.loop.running = true :=
  Loop.running_iff.2 (.inl h)

theorem running_of_reading {s : State} (h : s.loop = .reading) : s.loop.running = true :=
  Loop.running_iff.2 (.inr h)

/-- The invariants do not speak of `cmd_error`, the inputs to come or the trace. -/
theorem Inv.with_unconstrained {s : State} (h : Inv s) (e : Bool) (is : List Input) (es : List OutEvent) :
    Inv { s with cmdError := e, input := is, trace := es } :=
  ⟨h.params, { h.sequencer with }, { h.data with }⟩

theorem Inv.accept {s : State} (h : Inv s) : Inv (accept s) := h.with_unconstrained false s.input s.trace

theorem Inv.reject {s : State} (h : Inv s) : Inv (reject s) := h.with_unconstrained true s.input s.trace

/-- Outside READING, with the scanner, rd_cnt and `stop_pending` clear, the invariants ask only that a running
loop has its connection and no error. -/
theorem inv_of_clear {s : State} (hwf : s.cfg.wf = true) (hheld : s.loop.held = true) (hl : s.loop ≠ .reading)
    (hrun : s.loop.running = true → s.conn = .opened ∧ s.lastError = .none) (hlen : s.lineLen = 0)
    (hmatch : s.lineMatch = true) (hcnt : s.rdCnt = 0) (hstop : s.stopPending = false)
    (hfb : Memory.wf (fbLen s.cfg.n) s.fb) : Inv s where
  params := hwf
  sequencer :=
    { runningOpen := fun hr => (hrun hr).1
      rdCntZero := fun _ => hcnt
      scannerClear := fun _ => ⟨hlen, hmatch⟩
      stopInReading := fun hp => by simp [hstop] at hp
      matchBound := fun _ => by omega
      loopHeld := hheld
      rdCntBound := fun hr => absurd hr hl }
  data :=
    { lineLenBound := by omega
      rdCntRange := by omega
      fbWf := hfb
      fbWritten := fun hr => absurd hr hl
      noErrorRunning := fun hr => (hrun hr).2 }

/-- A connection opens, or an OPEN fails, only while no loop runs. -/
theorem Inv.not_running_of_closed {s : State} (h : Inv s) (hc : s.conn = .closed) : s.loop.running = false := by
  by_contra hr
  simp [h.sequencer.runningOpen (by simpa using hr)] at hc

/-- While no loop runs, `conn` and `last_error` are free. -/
theorem Inv.with_conn_lastError {s : State} (h : Inv s) (hr : s.loop.running = false) (c : Conn) (e : ErrorCode) :
    Inv { s with conn := c, lastError := e } :=
  ⟨h.params, { h.sequencer with runningOpen := fun hr' => by simp [hr] at hr' },
    { h.data with noErrorRunning := fun hr' => by simp [hr] at hr' }⟩

theorem inv_resetWith {p : Params} (h : p.wf = true) : Inv (State.resetWith p) :=
  inv_of_clear h rfl (by simp) (by simp [Loop.running]) rfl rfl rfl rfl (Memory.wf_nil _)

/-! ## Every operation keeps the invariants -/

theorem Inv.resetInput {s : State} (h : Inv s) : Inv (resetInput s) :=
  inv_of_clear h.params rfl (by simp) (by simp [Loop.running]) rfl rfl rfl rfl (Memory.wf_nil _)

theorem inv_stopAction {s : State} (hwf : s.cfg.wf = true) (hfb : Memory.wf (fbLen s.cfg.n) s.fb) :
    Inv (stopAction s) :=
  inv_of_clear hwf rfl (by simp) (by simp [Loop.running]) rfl rfl rfl rfl hfb

theorem Inv.raiseFatal {s : State} (h : Inv s) (k : FatalKind) : Inv (raiseFatal k s) :=
  inv_of_clear h.params rfl (by simp) (by simp [Loop.running]) rfl rfl rfl rfl h.data.fbWf

theorem Inv.startLoop {s : State} (h : Inv s) (hc : s.conn = .opened) : Inv (startLoop s) :=
  inv_of_clear h.params rfl (by simp) (fun _ => ⟨hc, rfl⟩) rfl rfl rfl rfl h.data.fbWf

/-- R106: a byte that leaves `line_match` 1 found `line_len` below 36. -/
theorem Inv.scanByte {s : State} (h : Inv s) (hl : s.loop = .syncing) (b : Byte) : Inv (scanByte b s) where
  params := h.params
  sequencer :=
    { h.sequencer with
      scannerClear := fun hn => absurd hl hn
      matchBound := fun hm => by
        simp only [scanByte_lineMatch, Bool.and_eq_true, decide_eq_true_eq] at hm
        simp only [scanByte_lineLen]
        omega }
  data := { h.data with lineLenBound := Nat.min_le_right _ _ }

/-- R107: the scanner waits at the next line start. -/
theorem Inv.lineReset {s : State} (h : Inv s) : Inv (lineReset s) where
  params := h.params
  sequencer :=
    { h.sequencer with
      scannerClear := fun _ => ⟨rfl, rfl⟩
      matchBound := fun _ => by simp }
  data := { h.data with lineLenBound := by simp }

/-- R107: at the Marker the body begins, and nothing of it is stored yet. -/
theorem Inv.markerFound {s : State} (h : Inv s) (hl : s.loop = .syncing) :
    Inv (Machine.lineReset { s with loop := .reading, rdCnt := 0 }) where
  params := h.params
  sequencer :=
    { runningOpen := fun _ => h.sequencer.runningOpen (running_of_syncing hl)
      rdCntZero := fun _ => rfl
      scannerClear := fun _ => ⟨rfl, rfl⟩
      stopInReading := fun _ => rfl
      matchBound := fun _ => by simp
      loopHeld := rfl
      rdCntBound := fun _ => by simp }
  data :=
    { lineLenBound := by simp
      rdCntRange := by simp
      fbWf := h.data.fbWf
      fbWritten := fun _ a ha => by simp [bytesStored] at ha
      noErrorRunning := fun _ => h.data.noErrorRunning (running_of_syncing hl) }

/-- R124: rd_cnt advances inside a body where FB's written part keeps up with it. -/
theorem Inv.advance {s : State} (h : Inv s) (hl : s.loop = .reading) (hc : s.rdCnt ≤ 2 * s.cfg.n + 4)
    (hw : ∀ a < bytesStored s.cfg.n (s.rdCnt + 1), (Memory.lookup s.fb a).isSome = true) : Inv (advance s) where
  params := h.params
  sequencer :=
    { h.sequencer with
      rdCntZero := fun hn => absurd hl hn
      rdCntBound := fun _ => by simp; omega }
  data :=
    { h.data with
      rdCntRange := by simp; omega
      fbWritten := fun _ => hw }

/-- A write inside FB keeps its form and forgets no written byte. -/
theorem Inv.memWrite {s : State} (h : Inv s) {a : Nat} (ha : a < fbLen s.cfg.n) (b : Byte) :
    Inv (memWrite a b s) where
  params := h.params
  sequencer := { h.sequencer with }
  data :=
    { h.data with
      fbWf := Memory.wf_write b ha h.data.fbWf
      fbWritten := fun hl c hc => by simp [Memory.isSome_lookup_write, h.data.fbWritten hl c hc] }

/-- R121, R123, R129: the byte stored is the first one the body had not written, so the written part of FB
grows by it. -/
theorem Inv.storeByte {s : State} (h : Inv s) (hl : s.loop = .reading) (hc : s.rdCnt ≤ 2 * s.cfg.n + 4)
    {a : Nat} (ha : a < fbLen s.cfg.n) (hstored : bytesStored s.cfg.n s.rdCnt = a)
    (hnext : bytesStored s.cfg.n (s.rdCnt + 1) = a + 1) (b : Byte) : Inv (storeByte a b s) := by
  refine (h.memWrite ha b).advance hl hc fun c hlt => ?_
  have hle : c = a ∨ c < bytesStored s.cfg.n s.rdCnt := by
    have : c < a + 1 := hnext ▸ hlt
    omega
  rcases hle with rfl | hlt
  · simp
  · simp [Memory.isSome_lookup_write, h.data.fbWritten hl c hlt]

/-- R122: delimiter 1 is stored nowhere, and the same bytes are written after it. -/
theorem Inv.delimiter1 {s : State} (h : Inv s) (hl : s.loop = .reading) (hc : s.rdCnt = 2 * s.cfg.n) :
    Inv (Machine.advance s) := by
  have hsame : bytesStored s.cfg.n (s.rdCnt + 1) = bytesStored s.cfg.n s.rdCnt := by
    rw [bytesStored_of_le hc.le, bytesStored_of_gt (by omega), Nat.add_sub_cancel]
  exact h.advance hl (by omega) (hsame ▸ h.data.fbWritten hl)

theorem Inv.payload {s : State} (h : Inv s) (hl : s.loop = .reading) (hc : s.rdCnt < 2 * s.cfg.n) (b : Byte) :
    Inv (Machine.storeByte s.rdCnt b s) :=
  h.storeByte hl (by omega) (show s.rdCnt < 2 * s.cfg.n + 4 by omega) (bytesStored_of_le hc.le)
    (bytesStored_of_le hc) b

theorem Inv.timing {s : State} (h : Inv s) (hl : s.loop = .reading) (hc : 2 * s.cfg.n < s.rdCnt)
    (hd : s.rdCnt ≤ 2 * s.cfg.n + 4) (b : Byte) : Inv (Machine.storeByte (s.rdCnt - 1) b s) :=
  h.storeByte hl hd (show s.rdCnt - 1 < 2 * s.cfg.n + 4 by omega) (bytesStored_of_gt hc)
    (by rw [bytesStored_of_gt (by omega)]; omega) b

/-- R125: without a pending stop the loop scans on, from a line start. -/
theorem Inv.frameDone {s : State} (h : Inv s) (hl : s.loop = .reading) (hp : s.stopPending = false) :
    Inv { frameEmitted s with loop := .syncing } :=
  have hr := running_of_reading hl
  inv_of_clear h.params rfl (by simp) (fun _ => ⟨h.sequencer.runningOpen hr, h.data.noErrorRunning hr⟩)
    rfl rfl rfl hp h.data.fbWf

/-- R166: a stop is noted only while a body is read. -/
theorem Inv.stopDeferred {s : State} (h : Inv s) (hl : s.loop = .reading) : Inv { s with stopPending := true } :=
  ⟨h.params, { h.sequencer with stopInReading := fun _ => hl }, { h.data with }⟩

/-- Every cell of the step table keeps the invariants. -/
theorem Effect.inv {i : Instr} {s t : State} (he : Effect s i t) (h : Inv s) : Inv t := by
  cases he with
  | scan b hl => exact h.scanByte hl b
  | marker hl => exact h.markerFound hl
  | discard => exact h.lineReset
  | payload b hl hc => exact h.payload hl hc b
  | delimiter1 b hl hc => exact h.delimiter1 hl hc
  | timing b hl hc hd => exact h.timing hl hc hd b
  | frame b hl _ hp => exact h.frameDone hl hp
  | frameStop => exact inv_stopAction h.params h.data.fbWf
  | timeout | ioFailure => exact h.raiseFatal _
  | timeoutIgnored | ioFailureIgnored => exact h
  | openOk x _ hc => exact (h.with_conn_lastError (h.not_running_of_closed hc) .opened s.lastError).accept
  | openFail x _ hc => exact (h.with_conn_lastError (h.not_running_of_closed hc) s.conn .portUnavailable).accept
  | close x _ hr =>
    exact (h.with_conn_lastError hr .closed s.lastError).with_unconstrained false s.input (s.trace ++ [.closeReq])
  | start x _ _ hc => exact h.startLoop hc
  | stop => exact (inv_stopAction h.params h.data.fbWf).accept
  | stopDeferred x hl => exact (h.stopDeferred hl).accept
  | closeClosed | stopIdle => exact h.accept
  | openOkRejected | openFailRejected | closeRejected | startRejected | reserved0 | reserved8F => exact h.reject

/-- Settles O54, by `Effect.inv` for an event and `Inv.resetInput` for the reset input. -/
theorem stepKeepsTheInvariants : Obligations.StepKeepsTheInvariants := by
  intro s t h hstep
  have hrest : ∀ rest, Inv { s with input := rest } := fun rest => h.with_unconstrained s.cmdError rest s.trace
  obtain ⟨-, ⟨ev, rest, -, hexec⟩ | ⟨lost, rest, -, rfl⟩⟩ := step_cases hstep
  · exact (exec_effect hexec).inv (hrest rest)
  · exact (hrest rest).resetInput

/-! ## Reachable states -/

/-- Settles O55: after reset FB is empty and everything else clear. -/
theorem invariantsHoldAtReset : Obligations.InvariantsHoldAtReset :=
  ⟨fun _ inputs hp => (inv_resetWith hp).with_unconstrained false inputs [], inv_resetWith (by decide)⟩

/-- No event writes the parameters, the inputs to come or the count of resets (R34, R40). -/
theorem Effect.cfg_input_fbDraw {i : Instr} {s t : State} (he : Effect s i t) :
    t.cfg = s.cfg ∧ t.input = s.input ∧ t.fbDraw = s.fbDraw := by
  cases he <;> exact ⟨rfl, rfl, rfl⟩

/-- R34: no step writes the parameters. -/
theorem step_cfg {s t : State} (hstep : step s = .next t) : t.cfg = s.cfg := by
  obtain ⟨-, ⟨ev, rest, -, hexec⟩ | ⟨lost, rest, -, rfl⟩⟩ := step_cases hstep
  · obtain ⟨hcfg, -, -⟩ := (exec_effect hexec).cfg_input_fbDraw
    exact hcfg
  · rfl

/-- Settles O56, by induction on the run: O55 at reset, O54 and `step_cfg` for a step. -/
theorem reachableStatesSatisfyTheInvariants : Obligations.ReachableStatesSatisfyTheInvariants := by
  intro p s hp hs
  induction hs with
  | reset inputs => exact ⟨invariantsHoldAtReset.1 p inputs hp, rfl⟩
  | step _ hstep ih =>
    obtain ⟨hinv, hcfg⟩ := ih
    exact ⟨stepKeepsTheInvariants _ _ hinv hstep, (step_cfg hstep).trans hcfg⟩

end Sys2Proof.Machine

/-!
Proofs of the family 10_state.md, FB and the scanner: what a received byte writes to FB (R27, R121, R123), the
canonical form FB is held in, and what the scanner knows of the line read so far (R25, R26).
-/

namespace Sys2Proof.Machine

/-! ## The address a body byte is stored at -/

theorem fbStoreAddr_of_not_reading {s : State} (h : s.loop ≠ .reading) : fbStoreAddr s = none := by
  unfold fbStoreAddr
  split
  · exact absurd ‹_› h
  all_goals rfl

theorem fbStoreAddr_payload {s : State} (hl : s.loop = .reading) (hc : s.rdCnt < 2 * s.cfg.n) :
    fbStoreAddr s = some s.rdCnt := by
  simp [fbStoreAddr, hl, bodyRole_payload hc]

theorem fbStoreAddr_timing {s : State} (hl : s.loop = .reading) (hc : 2 * s.cfg.n < s.rdCnt)
    (hd : s.rdCnt ≤ 2 * s.cfg.n + 4) : fbStoreAddr s = some (s.rdCnt - 1) := by
  simp [fbStoreAddr, hl, bodyRole_timing hc hd]

theorem fbStoreAddr_delimiter1 {s : State} (hc : s.rdCnt = 2 * s.cfg.n) : fbStoreAddr s = none := by
  unfold fbStoreAddr
  rw [hc, bodyRole_delimiter1]
  split <;> rfl

theorem fbStoreAddr_delimiter2 {s : State} (hc : s.rdCnt = 2 * s.cfg.n + 5) : fbStoreAddr s = none := by
  unfold fbStoreAddr
  rw [hc, bodyRole_delimiter2]
  split <;> rfl

/-! ## What an event writes to FB -/

/-- R121, R123: where the body position gives an address, RX_BYTE stores its byte there. -/
theorem Effect.eq_storeByte {b : Byte} {a : Nat} {s t : State} (he : Effect s (.rxByte b) t)
    (ha : fbStoreAddr s = some a) : t = storeByte a b s := by
  cases he with
  | scan _ hl | marker hl | discard hl => simp [fbStoreAddr_of_not_reading, hl] at ha
  | payload _ hl hc =>
    rw [fbStoreAddr_payload hl hc] at ha
    cases ha; rfl
  | timing _ hl hc hd =>
    rw [fbStoreAddr_timing hl hc hd] at ha
    cases ha; rfl
  | delimiter1 _ _ hc => simp [fbStoreAddr_delimiter1 hc] at ha
  | frame _ _ hc | frameStop _ _ hc => simp [fbStoreAddr_delimiter2 hc] at ha

/-- R40, R56: an event that stores no byte leaves FB. -/
theorem Effect.fb_unchanged {i : Instr} {s t : State} (he : Effect s i t)
    (hi : (∀ b, i ≠ .rxByte b) ∨ fbStoreAddr s = none) : t.fb = s.fb := by
  cases he with
  | payload b hl hc => simp [fbStoreAddr_payload hl hc] at hi
  | timing b hl hc hd => simp [fbStoreAddr_timing hl hc hd] at hi
  | _ => rfl

/-- Settles O34, by `Effect.eq_storeByte` and `Effect.fb_unchanged`. -/
theorem fbChangesOnlyAtTheStoredByte : Obligations.FbChangesOnlyAtTheStoredByte := by
  intro i s t hexec
  have he := exec_effect hexec
  obtain ⟨-, -, hdraw⟩ := he.cfg_input_fbDraw
  refine ⟨?_, fun hi => fbByte_congr (he.fb_unchanged hi) hdraw⟩
  rintro b a rfl ha
  rw [he.eq_storeByte ha]
  exact ⟨by simp, fun c hc => by simp [hc]⟩

/-! ## The canonical form of FB -/

/-- With addresses strictly rising, a memory lists each address at most once: reading it is listing it. -/
theorem Memory.lookup_eq_some_iff {m : Memory} (h : m.Pairwise (fun x y => x.1 < y.1)) (a : Nat) (b : Byte) :
    Memory.lookup m a = some b ↔ (a, b) ∈ m := by
  induction m with
  | nil => simp
  | cons x m ih =>
    obtain ⟨k, v⟩ := x
    obtain ⟨hk, hm⟩ := List.pairwise_cons.1 h
    by_cases ha : k = a
    · subst ha
      have hnot : (k, b) ∉ m := fun hmem => lt_irrefl k (hk _ hmem)
      simp [Memory.lookup, hnot, eq_comm]
    · simp [Memory.lookup, ha, Ne.symm ha, ih hm]

/-- Settles O35: equal reads list the same cells (`Memory.lookup_eq_some_iff`), and strictly rising lists of the
same cells are equal. -/
theorem canonicalFbIsDeterminedByItsReads : Obligations.CanonicalFbIsDeterminedByItsReads := by
  intro len m m' ⟨hm, _⟩ ⟨hm', _⟩ hreads
  have hcells : ∀ c : Host.Cell, c ∈ m ↔ c ∈ m' := fun ⟨a, b⟩ => by
    rw [← Memory.lookup_eq_some_iff hm, ← Memory.lookup_eq_some_iff hm', hreads]
  have hperm : m.Perm m' :=
    (List.perm_ext_iff_of_nodup (hm.imp fun h heq => by simp [heq] at h)
      (hm'.imp fun h heq => by simp [heq] at h)).2 hcells
  exact hperm.eq_of_pairwise (fun _ _ _ _ h h' => absurd h' h.asymm) hm hm'

/-! ## The scanner inside a line -/

/-- The bytes of a line so far agree with the Marker's, and its LF may still come (R26). -/
abbrev MatchesSoFar (marker seen : List Byte) : Prop :=
  seen.length ≤ 36 ∧ ∀ k, k < seen.length → seen[k]? = marker[k]?

/-- One byte more agrees where it is at most the 36th and equals the Marker's at its position (R106). -/
theorem matchesSoFar_concat {marker seen : List Byte} {b : Byte} :
    MatchesSoFar marker (seen ++ [b]) ↔
      MatchesSoFar marker seen ∧ seen.length < 36 ∧ marker[seen.length]? = some b := by
  have hprev : (∀ k < seen.length, (seen ++ [b])[k]? = marker[k]?) ↔
      ∀ k < seen.length, seen[k]? = marker[k]? :=
    forall₂_congr fun k hk => by rw [List.getElem?_append_left hk]
  simp only [MatchesSoFar, List.length_append, List.length_singleton, Nat.forall_lt_succ_right, hprev,
    List.getElem?_concat_length, eq_comm (a := some b)]
  constructor
  · rintro ⟨hlen, hall, hb⟩
    exact ⟨⟨by omega, hall⟩, by omega, hb⟩
  · rintro ⟨⟨_, hall⟩, hlen, hb⟩
    exact ⟨by omega, hall, hb⟩

/-- The state in which the scanner has read `seen` since the line start (R25, R26). -/
abbrev lineSoFar (seen : List Byte) (s : State) : State :=
  { s with lineLen := min seen.length 37, lineMatch := decide (MatchesSoFar s.cfg.marker seen) }

theorem lineSoFar_nil {s : State} (hlen : s.lineLen = 0) (hmatch : s.lineMatch = true) : lineSoFar [] s = s := by
  cases s
  subst hlen hmatch
  simp [lineSoFar, MatchesSoFar]

/-- R106: `line_len` saturates at 37, and `line_match` is lost for good where it saturates. -/
theorem scanByte_lineSoFar (b : Byte) (seen : List Byte) (s : State) :
    scanByte b (lineSoFar seen s) = lineSoFar (seen ++ [b]) s := by
  have hlen : min (min seen.length 37 + 1) 37 = min (seen ++ [b]).length 37 := by simp; omega
  have hmatch : (decide (MatchesSoFar s.cfg.marker seen) &&
      (decide (min seen.length 37 < 36) && matchesMarkerAt s.cfg (min seen.length 37) b)) =
      decide (MatchesSoFar s.cfg.marker (seen ++ [b])) := by
    have hbelow : min seen.length 37 < 36 ↔ seen.length < 36 := by omega
    rw [Bool.eq_iff_iff]
    simp only [Bool.and_eq_true, decide_eq_true_eq, matchesSoFar_concat, matchesMarkerAt,
      beq_iff_eq, hbelow]
    exact and_congr_right fun _ => and_congr_right fun h36 => by rw [min_eq_left (by omega)]
  simp only [scanByte, lineSoFar, hlen, hmatch]

/-- Settles O19, by induction on the line's bytes, the last one taken last (`scanByte_lineSoFar`). -/
theorem scannerHoldsTheLineSoFar : Obligations.ScannerHoldsTheLineSoFar := by
  intro seen s hl hlen hmatch hlf
  change receive seen s = .next (lineSoFar seen s)
  induction seen using List.reverseRecOn with
  | nil => rw [lineSoFar_nil hlen hmatch, receive_nil]
  | append_singleton seen b ih =>
    have hseen : LF ∉ seen := fun hmem => hlf (List.mem_append_left _ hmem)
    have hb : b ≠ LF := fun hb => hlf (by simp [hb])
    have hstep : exec (.rxByte b) (lineSoFar seen s) = .next (lineSoFar (seen ++ [b]) s) := by
      rw [exec_rxByte_scan (s := lineSoFar seen s) hl hb, scanByte_lineSoFar]
    rw [receive_append_next (ih hseen), receive_cons_next hstep, receive_nil]

end Sys2Proof.Machine

/-!
Proofs of the family 10_state.md, the other fields: who may write each of them (R31, R40), what holds where a loop
ends (R165, R181), their values after reset (R39) and how STATUS shows them (R32, R33).
-/

namespace Sys2Proof.Machine

/-! ## cmd_error -/

/-- Settles O43: each cell of the step table accepts, rejects, or is of a stream event. -/
theorem cmdErrorShowsWhetherTheLastCommandWasRejected :
    Obligations.CmdErrorShowsWhetherTheLastCommandWasRejected := by
  intro i s t hexec
  cases exec_effect hexec with
  | scan | marker | discard | payload | delimiter1 | timing | frame | frameStop | timeout | timeoutIgnored
  | ioFailure | ioFailureIgnored => rfl
  | stop | stopDeferred | stopIdle | reserved0 | reserved8F => rfl
  | openOk _ _ hc | openOkRejected _ _ hc | openFail _ _ hc | openFailRejected _ _ hc =>
    simp [isCommand, isRejectedIn, hc]
  | close _ _ hr | closeClosed _ _ hr | closeRejected _ hr => simp [isCommand, isRejectedIn, hr]
  | start _ _ hr hc => simp [isCommand, isRejectedIn, hr, hc]
  | startRejected _ _ h => simpa [isCommand, isRejectedIn] using h

/-! ## Who writes the other fields -/

/-- An accepted START (R160), as R40's table names it. -/
abbrev AcceptedStart (i : Instr) (s : State) : Prop :=
  (∃ x, i = .start x) ∧ s.loop.running = false ∧ s.conn = .opened

/-- A running loop ends (R165, R181), as R40's table names it. -/
abbrev RunningLoopEnds (s t : State) : Prop := s.loop.running = true ∧ t.loop.running = false

section RowsOfTheTable
variable {i : Instr} {s t : State}

/-- R40's row of conn. -/
theorem Effect.conn_written (he : Effect s i t) (hne : t.conn ≠ s.conn) :
    ((∃ x, i = .openOk x) ∧ s.conn = .closed) ∨
      ((∃ x, i = .close x) ∧ s.loop.running = false ∧ s.conn = .opened) ∨ RunningLoopEnds s t := by
  cases he with
  | openOk x _ hc => exact .inl ⟨⟨x, rfl⟩, hc⟩
  | close x _ hr hc => exact .inr (.inl ⟨⟨x, rfl⟩, hr, hc⟩)
  | frameStop b hl => exact .inr (.inr ⟨running_of_reading hl, rfl⟩)
  | stop x hl => exact .inr (.inr ⟨running_of_syncing hl, rfl⟩)
  | timeout x hr | ioFailure x hr => exact .inr (.inr ⟨hr, rfl⟩)
  | _ => exact absurd rfl hne

/-- R40's rows of line_len and line_match. -/
theorem Effect.scanner_written (he : Effect s i t) (hne : t.lineLen ≠ s.lineLen ∨ t.lineMatch ≠ s.lineMatch) :
    ((∃ b, i = .rxByte b) ∧ (s.loop = .syncing ∨ (s.loop = .reading ∧ s.rdCnt = 2 * s.cfg.n + 5))) ∨
      AcceptedStart i s ∨ RunningLoopEnds s t := by
  cases he with
  | scan b hl => exact .inl ⟨⟨b, rfl⟩, .inl hl⟩
  | marker hl | discard hl => exact .inl ⟨⟨LF, rfl⟩, .inl hl⟩
  | frame b hl hc | frameStop b hl hc => exact .inl ⟨⟨b, rfl⟩, .inr ⟨hl, hc⟩⟩
  | start x _ hr hc => exact .inr (.inl ⟨⟨x, rfl⟩, hr, hc⟩)
  | stop x hl => exact .inr (.inr ⟨running_of_syncing hl, rfl⟩)
  | timeout x hr | ioFailure x hr => exact .inr (.inr ⟨hr, rfl⟩)
  | _ => exact hne.elim (absurd rfl) (absurd rfl)

/-- R40's row of rd_cnt. -/
theorem Effect.rdCnt_written (he : Effect s i t) (hne : t.rdCnt ≠ s.rdCnt) :
    ((∃ b, i = .rxByte b) ∧ s.loop = .reading) ∨
      (i = .rxByte LF ∧ s.loop = .syncing ∧ s.lineMatch = true ∧ s.lineLen = 36) ∨
      AcceptedStart i s ∨ RunningLoopEnds s t := by
  cases he with
  | payload b hl | delimiter1 b hl | timing b hl | frame b hl | frameStop b hl => exact .inl ⟨⟨b, rfl⟩, hl⟩
  | marker hl hm hk => exact .inr (.inl ⟨rfl, hl, hm, hk⟩)
  | start x _ hr hc => exact .inr (.inr (.inl ⟨⟨x, rfl⟩, hr, hc⟩))
  | stop x hl => exact .inr (.inr (.inr ⟨running_of_syncing hl, rfl⟩))
  | timeout x hr | ioFailure x hr => exact .inr (.inr (.inr ⟨hr, rfl⟩))
  | _ => exact absurd rfl hne

/-- R40's row of stop_pending. -/
theorem Effect.stopPending_written (he : Effect s i t) (hne : t.stopPending ≠ s.stopPending) :
    ((∃ x, i = .stop x) ∧ s.loop = .reading) ∨ AcceptedStart i s ∨ RunningLoopEnds s t := by
  cases he with
  | stopDeferred x hl => exact .inl ⟨⟨x, rfl⟩, hl⟩
  | start x _ hr hc => exact .inr (.inl ⟨⟨x, rfl⟩, hr, hc⟩)
  | frameStop b hl => exact .inr (.inr ⟨running_of_reading hl, rfl⟩)
  | stop x hl => exact .inr (.inr ⟨running_of_syncing hl, rfl⟩)
  | timeout x hr | ioFailure x hr => exact .inr (.inr ⟨hr, rfl⟩)
  | _ => exact absurd rfl hne

/-- R40's row of last_error. -/
theorem Effect.lastError_written (he : Effect s i t) (hne : t.lastError ≠ s.lastError) :
    ((∃ x, i = .openFail x) ∧ s.conn = .closed) ∨ AcceptedStart i s ∨
      (((∃ x, i = .rxTimeout x) ∨ ∃ x, i = .rxIofail x) ∧ s.loop.running = true) := by
  cases he with
  | openFail x _ hc => exact .inl ⟨⟨x, rfl⟩, hc⟩
  | start x _ hr hc => exact .inr (.inl ⟨⟨x, rfl⟩, hr, hc⟩)
  | timeout x hr => exact .inr (.inr ⟨.inl ⟨x, rfl⟩, hr⟩)
  | ioFailure x hr => exact .inr (.inr ⟨.inr ⟨x, rfl⟩, hr⟩)
  | _ => exact absurd rfl hne

end RowsOfTheTable

/-- Settles O52, row by row of R40's table. -/
theorem fieldsAreWrittenOnlyByTheirRules : Obligations.FieldsAreWrittenOnlyByTheirRules := by
  intro i s t hexec
  have he := exec_effect hexec
  obtain ⟨hcfg, hinput, hdraw⟩ := he.cfg_input_fbDraw
  exact ⟨hcfg, hinput, hdraw, he.conn_written, he.scanner_written, he.rdCnt_written, he.stopPending_written,
    he.lastError_written⟩

/-! ## The end of a loop -/

/-- R82: a fatal termination is no stop, and END carries the code that `last_error` saves. -/
theorem FatalKind.reason_ne_stopped (k : FatalKind) : k.reason ≠ .stopped := by cases k <;> decide

theorem FatalKind.code_reason (k : FatalKind) : k.reason.code = k.error.code := by cases k <;> rfl

/-- What is left where a loop has ended after the outputs `before` (R24, R82, R165, R181). -/
abbrev LoopEnded (before : List OutEvent) (t : State) : Prop :=
  t.conn = .closed ∧ t.lineLen = 0 ∧ t.lineMatch = true ∧ t.rdCnt = 0 ∧ t.stopPending = false ∧
    ∃ pre r, t.trace = before ++ pre ++ [.closeReq, .ended r] ∧ (r = .stopped ↔ t.loop = .stopped) ∧
      (t.loop = .stopped → r.code = 0) ∧ (t.loop = .terminated → r.code = t.lastError.code)

/-- R165. -/
theorem loopEnded_stopAction {before pre : List OutEvent} {s : State} (h : s.trace = before ++ pre) :
    LoopEnded before (stopAction s) :=
  ⟨rfl, rfl, rfl, rfl, rfl, pre, .stopped, by simp [h], by simp, fun _ => rfl, by simp⟩

/-- R181, R187. -/
theorem loopEnded_raiseFatal (k : FatalKind) (s : State) : LoopEnded s.trace (raiseFatal k s) :=
  ⟨rfl, rfl, rfl, rfl, rfl, [], k.reason, by simp, by simp [k.reason_ne_stopped], by simp, fun _ => k.code_reason⟩

/-- Settles O53: a loop ends by the stop action or by fatal termination. -/
theorem endOfALoopClosesTheConnection : Obligations.EndOfALoopClosesTheConnection := by
  intro i s t hexec hne hend
  change LoopEnded s.trace t
  cases exec_effect hexec with
  | frameStop => exact loopEnded_stopAction (pre := [decodedFrame s]) rfl
  | stop => exact loopEnded_stopAction (pre := []) (List.append_nil _).symm
  | timeout | ioFailure => exact loopEnded_raiseFatal _ s
  | marker | frame | start => simp at hend
  | _ => exact absurd rfl hne

/-! ## STATUS -/

/-- Five words set side by side, read back by position, the last one lowest. -/
theorem extractLsb'_append_fields {ve vp vr vc vl : Nat} (e : BitVec ve) (p : BitVec vp) (r : BitVec vr)
    (c : BitVec vc) (l : BitVec vl) :
    (e ++ (p ++ (r ++ (c ++ l)))).extractLsb' 0 vl = l ∧
    (e ++ (p ++ (r ++ (c ++ l)))).extractLsb' vl vc = c ∧
    (e ++ (p ++ (r ++ (c ++ l)))).extractLsb' (vc + vl) vr = r ∧
    (e ++ (p ++ (r ++ (c ++ l)))).extractLsb' (vr + (vc + vl)) vp = p ∧
    (e ++ (p ++ (r ++ (c ++ l)))).extractLsb' (vp + (vr + (vc + vl))) ve = e := by
  refine ⟨?_, ?_, ?_, ?_, BitVec.extractLsb'_append_eq_left⟩
  all_goals repeat rw [BitVec.extractLsb'_append_eq_of_add_le (by omega)]
  · exact BitVec.extractLsb'_eq_self
  all_goals exact BitVec.extractLsb'_append_eq_left

/-- R32's layout. -/
theorem statusWord_fields (s : State) :
    (statusWord s).extractLsb' 0 3 = s.loop.code ∧ (statusWord s).extractLsb' 3 1 = s.conn.code ∧
    (statusWord s).extractLsb' 4 2 = s.lastError.code ∧ (statusWord s).extractLsb' 6 1 = flagBit s.stopPending ∧
    (statusWord s).extractLsb' 7 1 = flagBit s.cmdError :=
  extractLsb'_append_fields _ _ _ _ _

/-- A one-bit field that holds a flag is that flag. -/
theorem getLsbD_of_extractLsb'_eq_flagBit {w k : Nat} {x : BitVec w} {b : Bool}
    (h : x.extractLsb' k 1 = flagBit b) : x.getLsbD k = b := by
  have hbit := congrArg (BitVec.getLsbD · 0) h
  cases b <;> simpa [flagBit, BitVec.getLsbD_extractLsb'] using hbit

/-! Different values of a field have different codes (R23, R24, R30). -/

theorem Loop.code_injective : Function.Injective Loop.code := by
  intro a b
  cases a <;> cases b <;> decide

theorem Conn.code_injective : Function.Injective Conn.code := by
  intro a b
  cases a <;> cases b <;> decide

theorem ErrorCode.code_injective : Function.Injective ErrorCode.code := by
  intro a b
  cases a <;> cases b <;> decide

/-- Settles O50: the layout is `statusWord_fields`, and each code stands for one value. -/
theorem statusAndRxReadyShowTheState : Obligations.StatusAndRxReadyShowTheState := by
  intro s
  obtain ⟨hloop, hconn, herror, hstop, hcmd⟩ := statusWord_fields s
  have hl {c : BitVec 3} {l : Loop} (hc : l.code = c) : (statusWord s).extractLsb' 0 3 = c ↔ s.loop = l :=
    hloop ▸ Loop.code_injective.eq_iff' hc
  have ho {c : BitVec 1} {o : Conn} (hc : o.code = c) : (statusWord s).extractLsb' 3 1 = c ↔ s.conn = o :=
    hconn ▸ Conn.code_injective.eq_iff' hc
  have he {c : BitVec 2} {e : ErrorCode} (hc : e.code = c) : (statusWord s).extractLsb' 4 2 = c ↔ s.lastError = e :=
    herror ▸ ErrorCode.code_injective.eq_iff' hc
  exact ⟨Loop.running_iff, hloop, hconn, herror, getLsbD_of_extractLsb'_eq_flagBit hstop,
    getLsbD_of_extractLsb'_eq_flagBit hcmd, hl rfl, hl rfl, hl rfl, hl rfl, hl rfl, ho rfl, ho rfl,
    he rfl, he rfl, he rfl, he rfl⟩

/-! ## Reset -/

/-- R39: every field STATUS shows has code 0. -/
theorem statusWord_resetWith (p : Params) : statusWord (State.resetWith p) = 0x00 := by
  simp only [statusWord, resetWith_cmdError, resetWith_stopPending, resetWith_lastError, resetWith_conn,
    resetWith_loop]
  decide

/-- Settles O10: `State.resetWith` writes R39's value into each field. -/
theorem resetValues : Obligations.ResetValues :=
  fun p => ⟨rfl, rfl, rfl, rfl, rfl, rfl, rfl, rfl, statusWord_resetWith p, rfl⟩

end Sys2Proof.Machine

/-!
Proofs of the family 20_memory.md, FB: its byte order (R48), and that a frame is made of the bytes of its own body
alone, whatever FB held before (R46, R47, R129).
-/

namespace Sys2Proof.Machine

/-! ## Byte order -/

/-- Settles O30, by induction on the length: the bytes above the lowest one are a read at the next address, shifted
by 8. -/
theorem memReadIsLittleEndian : Obligations.MemReadIsLittleEndian := by
  intro s a n
  induction n generalizing a with
  | zero => rfl
  | succ n ih =>
    have hbyte : ∀ k, (fbByte s (a + (k + 1))).toNat <<< (8 * (k + 1)) =
        256 * (fbByte s (a + 1 + k)).toNat <<< (8 * k) := fun k => by
      rw [show a + (k + 1) = a + 1 + k by omega, Nat.shiftLeft_eq, Nat.shiftLeft_eq, mul_add_one, pow_add]
      ring
    rw [memRead_succ, ih, List.range_succ_eq_map, List.map_cons, List.sum_cons, List.map_map,
      ← List.sum_map_mul_left]
    simp [Function.comp_def, hbyte]

/-! ## The bytes of a body in FB -/

/-- The body position of the byte FB holds at `a`: delimiter 1 lies between payload and timing (R120). -/
def wirePos (n a : Nat) : Nat := if a < 2 * n then a else a + 1

theorem wirePos_payload {n a : Nat} (h : a < 2 * n) : wirePos n a = a := if_pos h

theorem wirePos_timing {n a : Nat} (h : 2 * n ≤ a) : wirePos n a = a + 1 := if_neg (by omega)

theorem wirePos_inj {n a c : Nat} (h : wirePos n a = wirePos n c) : a = c := by
  unfold wirePos at h
  split at h <;> split at h <;> omega

/-- Delimiter 1 is stored nowhere (R122). -/
theorem wirePos_ne_delimiter1 (n a : Nat) : wirePos n a ≠ 2 * n := by
  unfold wirePos
  split <;> omega

/-- FB holds the bytes of a body, as far as they were read (R121, R123). -/
def HoldsBody (bytes : List Byte) (s : State) : Prop :=
  ∀ a, wirePos s.cfg.n a < bytes.length → fbByte s a = bytes.getD (wirePos s.cfg.n a) 0

theorem holdsBody_nil (s : State) : HoldsBody [] s := fun _ ha => absurd ha (Nat.not_lt_zero _)

/-- A byte more leaves the positions before it. -/
theorem HoldsBody.concat {bytes : List Byte} {s : State} (h : HoldsBody bytes s) (b : Byte) {a : Nat}
    (hne : wirePos s.cfg.n a ≠ bytes.length) (ha : wirePos s.cfg.n a < (bytes ++ [b]).length) :
    fbByte s a = (bytes ++ [b]).getD (wirePos s.cfg.n a) 0 := by
  have hlt : wirePos s.cfg.n a < bytes.length := by
    rw [List.length_append, List.length_singleton] at ha
    omega
  rw [List.getD_append _ _ _ _ hlt, h a hlt]

/-- R121, R123: a byte stored at the address of its own body position. -/
theorem HoldsBody.storeByte {bytes : List Byte} {s : State} (h : HoldsBody bytes s) (b : Byte) {a : Nat}
    (ha : wirePos s.cfg.n a = bytes.length) : HoldsBody (bytes ++ [b]) (storeByte a b s) := by
  intro c hc
  rw [storeByte_cfg] at hc ⊢
  rw [fbByte_storeByte]
  split
  · subst c
    simp [ha]
  · exact h.concat b (fun heq => ‹c ≠ a› (wirePos_inj (heq.trans ha.symm))) hc

/-- R122: delimiter 1 is stored nowhere, and FB lacks no byte for it. -/
theorem HoldsBody.delimiter1 {bytes : List Byte} {s : State} (h : HoldsBody bytes s) (b : Byte)
    (hlen : bytes.length = 2 * s.cfg.n) : HoldsBody (bytes ++ [b]) (advance s) :=
  fun c hc => h.concat b (hlen ▸ wirePos_ne_delimiter1 s.cfg.n c) hc

/-! ## What is decoded -/

/-- R140, R67: a sample is the two bytes at its wire position. -/
theorem HoldsBody.sample_eq {bytes : List Byte} {s : State} (h : HoldsBody bytes s)
    (hlen : 2 * s.cfg.n + 5 ≤ bytes.length) {i : Nat} (hi : i < s.cfg.n) : sample s i = wireSample bytes i := by
  have hlow := h (2 * i) (by rw [wirePos_payload (by omega)]; omega)
  have hhigh := h (2 * i + 1) (by rw [wirePos_payload (by omega)]; omega)
  rw [wirePos_payload (by omega)] at hlow hhigh
  simp [sample, wireSample, memRead_succ, hlow, hhigh]

/-- R141, R68: the timing value is the four bytes after delimiter 1. -/
theorem HoldsBody.timing_eq {bytes : List Byte} {s : State} (h : HoldsBody bytes s)
    (hlen : 2 * s.cfg.n + 5 ≤ bytes.length) : timing s = wireTiming s.cfg.n bytes := by
  have hbyte : ∀ k < 4, fbByte s (2 * s.cfg.n + k) = bytes.getD (2 * s.cfg.n + k + 1) 0 := fun k hk => by
    have hpos : wirePos s.cfg.n (2 * s.cfg.n + k) = 2 * s.cfg.n + k + 1 := wirePos_timing (by omega)
    rw [h _ (by omega), hpos]
  have h0 := hbyte 0 (by decide)
  have h1 := hbyte 1 (by decide)
  have h2 := hbyte 2 (by decide)
  have h3 := hbyte 3 (by decide)
  simp only [timing, wireTiming, memRead_succ, memRead_zero, Nat.add_assoc, Nat.reduceAdd, add_zero] at h0 h1 h2 h3 ⊢
  rw [h0, h1, h2, h3]
  congr 1
  omega

/-- The frame that the bytes of a body carry (R65, R67, R68). -/
def wireFrame (n : Nat) (body : List Byte) : OutEvent := .frame (wireSamples n body) (wireTiming n body)

/-- R129, R133: with the body in FB, what is decoded is what the wire carried. -/
theorem HoldsBody.decodedFrame_eq {bytes : List Byte} {s : State} (h : HoldsBody bytes s)
    (hlen : 2 * s.cfg.n + 5 ≤ bytes.length) : decodedFrame s = wireFrame s.cfg.n bytes := by
  have hsamples : samples s = wireSamples s.cfg.n bytes :=
    List.map_congr_left fun i hi => h.sample_eq hlen (List.mem_range.1 hi)
  rw [decodedFrame, wireFrame, hsamples, h.timing_eq hlen]

/-- Delimiter 2 is stored nowhere, and no frame reads it (R125, R126). -/
theorem wireFrame_concat {n : Nat} {bytes : List Byte} (hlen : bytes.length = 2 * n + 5) (b : Byte) :
    wireFrame n (bytes ++ [b]) = wireFrame n bytes := by
  have hget : ∀ k < 2 * n + 5, (bytes ++ [b]).getD k 0 = bytes.getD k 0 := fun k hk =>
    List.getD_append _ _ _ _ (hlen ▸ hk)
  have hsamples : wireSamples n (bytes ++ [b]) = wireSamples n bytes := List.map_congr_left fun i hi => by
    have hi : i < n := List.mem_range.1 hi
    rw [wireSample, wireSample, hget _ (by omega), hget _ (by omega)]
  rw [wireFrame, wireFrame, hsamples, wireTiming, wireTiming, hget _ (by omega), hget _ (by omega),
    hget _ (by omega), hget _ (by omega)]

/-! ## Reading a body -/

section BodyByte
variable {s : State} (b : Byte)

theorem exec_rxByte_payload (hl : s.loop = .reading) (hc : s.rdCnt < 2 * s.cfg.n) :
    exec (.rxByte b) s = .next (storeByte s.rdCnt b s) := by
  simp [exec_rxByte_reading b hl, readByte, bodyRole_payload hc]

theorem exec_rxByte_delimiter1 (hl : s.loop = .reading) (hc : s.rdCnt = 2 * s.cfg.n) :
    exec (.rxByte b) s = .next (advance s) := by
  simp [exec_rxByte_reading b hl, readByte, hc, bodyRole_delimiter1]

theorem exec_rxByte_timing (hl : s.loop = .reading) (hc : 2 * s.cfg.n < s.rdCnt) (hd : s.rdCnt ≤ 2 * s.cfg.n + 4) :
    exec (.rxByte b) s = .next (storeByte (s.rdCnt - 1) b s) := by
  simp [exec_rxByte_reading b hl, readByte, bodyRole_timing hc hd]

theorem exec_rxByte_delimiter2 (hl : s.loop = .reading) (hc : s.rdCnt = 2 * s.cfg.n + 5) :
    exec (.rxByte b) s = .next (completeFrame s) := by
  simp [exec_rxByte_reading b hl, readByte, hc, bodyRole_delimiter2]

end BodyByte

/-- The state after `bytes` of a body that began in `s`, with `m` in FB (R120, R124). -/
abbrev insideBody (bytes : List Byte) (m : Memory) (s : State) : State :=
  { s with fb := m, rdCnt := bytes.length }

/-- R120 to R124: each byte before delimiter 2 advances the body by one and changes nothing but FB. -/
theorem exec_rxByte_insideBody {bytes : List Byte} {m : Memory} {s : State} (b : Byte) (hl : s.loop = .reading)
    (hlen : bytes.length ≤ 2 * s.cfg.n + 4) (h : HoldsBody bytes (insideBody bytes m s)) :
    ∃ m', exec (.rxByte b) (insideBody bytes m s) = .next (insideBody (bytes ++ [b]) m' s) ∧
      HoldsBody (bytes ++ [b]) (insideBody (bytes ++ [b]) m' s) := by
  have hconcat : ∀ m', insideBody (bytes ++ [b]) m' s = { s with fb := m', rdCnt := bytes.length + 1 } :=
    fun m' => by simp [insideBody]
  simp only [hconcat]
  rcases lt_trichotomy bytes.length (2 * s.cfg.n) with hc | hc | hc
  · exact ⟨_, exec_rxByte_payload b hl hc, h.storeByte b (wirePos_payload hc)⟩
  · exact ⟨_, exec_rxByte_delimiter1 b hl hc, h.delimiter1 b hc⟩
  · have hpos : wirePos s.cfg.n (bytes.length - 1) = bytes.length := by
      rw [wirePos_timing (by omega)]
      omega
    exact ⟨_, exec_rxByte_timing b hl hc hlen, h.storeByte b hpos⟩

/-- R46, R121 to R124: up to delimiter 2, a body is read into FB and changes nothing else but rd_cnt. -/
theorem receive_insideBody {s : State} (hl : s.loop = .reading) (hc : s.rdCnt = 0) (bytes : List Byte)
    (hlen : bytes.length ≤ 2 * s.cfg.n + 5) :
    ∃ m, receive bytes s = .next (insideBody bytes m s) ∧ HoldsBody bytes (insideBody bytes m s) := by
  induction bytes using List.reverseRecOn with
  | nil =>
    refine ⟨s.fb, ?_, holdsBody_nil _⟩
    rw [receive_nil, insideBody, List.length_nil, ← hc]
  | append_singleton bytes b ih =>
    rw [List.length_append, List.length_singleton] at hlen
    obtain ⟨m, hrun, hbody⟩ := ih (by omega)
    obtain ⟨m', hstep, hbody'⟩ := exec_rxByte_insideBody b hl (by omega) hbody
    exact ⟨m', by rw [receive_append_next hrun, receive_cons_next hstep, receive_nil], hbody'⟩

/-- What follows a whole body whose frame is `e`: `completeFrame`, freed from FB (R125, R165). -/
def finishBody (e : OutEvent) (s : State) : State :=
  let t := lineReset { emit e s with rdCnt := 0 }
  if s.stopPending then stopAction t else { t with loop := .syncing }

theorem completeFrame_eq_finishBody (s : State) : completeFrame s = finishBody (decodedFrame s) s := rfl

theorem finishBody_rdCnt (e : OutEvent) (s : State) (c : Nat) :
    finishBody e { s with rdCnt := c } = finishBody e s := by
  unfold finishBody
  split <;> rfl

/-- FB and its free bytes have no part in what follows a body. -/
theorem finishBody_fb (e : OutEvent) (s : State) (m : Memory) (d : Nat) :
    finishBody e { s with fb := m, fbDraw := d } = { finishBody e s with fb := m, fbDraw := d } := by
  unfold finishBody
  split <;> rfl

theorem finishBody_scan {s : State} (e : OutEvent) (hp : s.stopPending = false) :
    finishBody e s =
      { s with loop := .syncing, lineLen := 0, lineMatch := true, rdCnt := 0, trace := s.trace ++ [e] } := by
  simp [finishBody, hp, lineReset, emit]

/-- R129, R133: a whole body emits the frame on the wire, whatever FB held. -/
theorem receive_body {body : List Byte} {s : State} (hl : s.loop = .reading) (hc : s.rdCnt = 0)
    (hlen : body.length = bodyLen s.cfg.n) :
    ∃ m, receive body s = .next (finishBody (wireFrame s.cfg.n body) { s with fb := m }) := by
  obtain ⟨bytes, b, rfl⟩ : ∃ bytes b, body = bytes ++ [b] :=
    (List.eq_nil_or_concat' body).resolve_left fun h => by simp [h] at hlen
  have hbytes : bytes.length = 2 * s.cfg.n + 5 := by
    rw [List.length_append, List.length_singleton, bodyLen] at hlen
    omega
  obtain ⟨m, hrun, hbody⟩ := receive_insideBody hl hc bytes hbytes.le
  refine ⟨m, ?_⟩
  rw [receive_append_next hrun, receive_cons_next (exec_rxByte_delimiter2 b (s := insideBody bytes m s) hl hbytes),
    receive_nil, completeFrame_eq_finishBody, hbody.decodedFrame_eq hbytes.ge, wireFrame_concat hbytes]
  exact congrArg _ (finishBody_rdCnt _ { s with fb := m } bytes.length)

/-- Settles O26, by `receive_body`. -/
theorem bodyEmitsTheFrameOfItsBytes : Obligations.BodyEmitsTheFrameOfItsBytes := by
  intro body s hl hc hlen hp
  obtain ⟨m, hrun⟩ := receive_body hl hc hlen
  rw [finishBody_scan (s := { s with fb := m }) _ hp] at hrun
  exact ⟨_, hrun, rfl, rfl, rfl, rfl, rfl⟩

/-- Settles O29: by `receive_body` both runs emit the frame on the wire, and FB has no part in what follows. -/
theorem earlierBytesOfFbNeverReachAnOutput : Obligations.EarlierBytesOfFbNeverReachAnOutput := by
  intro body m d s hl hc hlen
  obtain ⟨mt, ht⟩ := receive_body hl hc hlen
  obtain ⟨mu, hu⟩ := receive_body (s := { s with fb := m, fbDraw := d }) hl hc hlen
  rw [finishBody_fb _ s mt s.fbDraw] at ht
  rw [finishBody_fb _ s mu d] at hu
  exact ⟨_, _, ht, hu, rfl, rfl⟩

end Sys2Proof.Machine

/-!
Proofs of the family 20_memory.md, order: delivered words run one after another (R59, R70), and each output comes
from the event whose rule names it (R54, R80).
-/

namespace Sys2Proof.Machine

/-! ## Steps in order -/

theorem deliver_nil (s : State) : deliver [] s = s := by simp [deliver]

/-- With no input waiting, the port holds what is delivered and nothing else. -/
theorem deliver_eq {s : State} (h : s.input = []) (evs : List EventWord) :
    deliver evs s = { s with input := evs.map .event } := by simp [deliver, h]

/-- R70: a step takes the first delivered word and leaves the others at the port. -/
theorem step_deliver_cons {s : State} (hwf : s.cfg.wf = true) (h : s.input = []) (ev : EventWord)
    (evs : List EventWord) :
    step (deliver (ev :: evs) s) = exec (decode ev) { s with input := evs.map .event } := by
  simp [deliver_eq h, step, hwf, takeInput]

/-- Settles O7, by induction on the words: an event neither sees nor moves the words behind it (`exec_input`,
`Effect.cfg_input_fbDraw`). -/
theorem stepsRunTheDeliveredEventsInOrder : Obligations.StepsRunTheDeliveredEventsInOrder := by
  intro s evs hwf hin
  induction evs generalizing s with
  | nil => exact congrArg _ (deliver_nil s)
  | cons ev evs ih =>
    have hstep := step_deliver_cons hwf hin ev evs
    rw [exec_input] at hstep
    rw [List.length_cons, run_succ, hstep, List.map_cons, execAll]
    cases hexec : exec (decode ev) s with
    | next t =>
      obtain ⟨hcfg, hinput, -⟩ := (exec_effect hexec).cfg_input_fbDraw
      have htail := ih t (hcfg ▸ hwf) (hinput.trans hin)
      rwa [deliver_eq (hinput.trans hin)] at htail
    | fault | refused => rfl

/-! ## The outputs of an event -/

/-- The output that an event's own rule emits: FRAME at delimiter 2 (R125), CLOSE_REQ where CLOSE closes (R94),
FLUSH_REQ where START is accepted (R160). -/
def ownOutput (s : State) : Instr → Option OutEvent
  | .rxByte _ => if s.loop = .reading ∧ s.rdCnt = 2 * s.cfg.n + 5 then some (decodedFrame s) else none
  | .close _ => if s.loop.running = false ∧ s.conn = .opened then some .closeReq else none
  | .start _ => if s.loop.running = false ∧ s.conn = .opened then some .flushReq else none
  | .rxTimeout _ | .rxIofail _ | .openOk _ | .openFail _ | .stop _ | .reserved0 _ | .reserved8F _ _ => none

/-- Why an event ends the loop, if it does: a pending stop at delimiter 2 (R125), STOP in SYNCING (R164), a read
error while running (R179, R180). -/
def endReason (s : State) : Instr → Option EndReason
  | .rxByte _ =>
    if s.loop = .reading ∧ s.rdCnt = 2 * s.cfg.n + 5 ∧ s.stopPending = true then some .stopped else none
  | .stop _ => if s.loop = .syncing then some .stopped else none
  | .rxTimeout _ => if s.loop.running = true then some .timeout else none
  | .rxIofail _ => if s.loop.running = true then some .ioFailure else none
  | .openOk _ | .openFail _ | .close _ | .start _ | .reserved0 _ | .reserved8F _ _ => none

/-- The outputs of an event: its own, then those of the loop's end (R80, R165, R181). -/
def outputs (s : State) (i : Instr) : List OutEvent :=
  (ownOutput s i).toList ++ (endReason s i).elim [] fun r => [.closeReq, .ended r]

section OutputsOfAnEvent
variable {i : Instr} {s t : State}

/-! What each rule emits. -/

theorem ownOutput_eq_frame_iff {vs : List U16} {tv : U32} : ownOutput s i = some (.frame vs tv) ↔
    (∃ b, i = .rxByte b) ∧ s.loop = .reading ∧ s.rdCnt = 2 * s.cfg.n + 5 ∧ vs = samples s ∧ tv = timing s := by
  cases i <;> simp [ownOutput, decodedFrame, and_assoc, eq_comm (a := samples s), eq_comm (a := Machine.timing s)]

theorem ownOutput_eq_flushReq_iff : ownOutput s i = some .flushReq ↔ AcceptedStart i s := by
  cases i <;> simp [ownOutput, AcceptedStart, decodedFrame]

theorem ownOutput_eq_closeReq_iff : ownOutput s i = some .closeReq ↔
    (∃ x, i = .close x) ∧ s.loop.running = false ∧ s.conn = .opened := by
  cases i <;> simp [ownOutput, decodedFrame]

theorem ownOutput_ne_ended (r : EndReason) : ownOutput s i ≠ some (.ended r) := by
  cases i <;> simp [ownOutput, decodedFrame]

theorem endReason_eq_stopped_iff : endReason s i = some .stopped ↔
    ((∃ x, i = .stop x) ∧ s.loop = .syncing) ∨
      ((∃ b, i = .rxByte b) ∧ s.loop = .reading ∧ s.rdCnt = 2 * s.cfg.n + 5 ∧ s.stopPending = true) := by
  cases i <;> simp [endReason]

theorem endReason_eq_timeout_iff : endReason s i = some .timeout ↔
    (∃ x, i = .rxTimeout x) ∧ s.loop.running = true := by
  cases i <;> simp [endReason]

theorem endReason_eq_ioFailure_iff : endReason s i = some .ioFailure ↔
    (∃ x, i = .rxIofail x) ∧ s.loop.running = true := by
  cases i <;> simp [endReason]

/-! What the outputs of an event hold. -/

theorem mem_outputs {e : OutEvent} : e ∈ outputs s i ↔
    ownOutput s i = some e ∨ ∃ r, endReason s i = some r ∧ (e = .closeReq ∨ e = .ended r) := by
  cases h : endReason s i <;> simp [outputs, h]

theorem frame_mem_outputs_iff {vs : List U16} {tv : U32} :
    .frame vs tv ∈ outputs s i ↔ ownOutput s i = some (.frame vs tv) := by simp [mem_outputs]

theorem flushReq_mem_outputs_iff : .flushReq ∈ outputs s i ↔ ownOutput s i = some .flushReq := by simp [mem_outputs]

theorem closeReq_mem_outputs_iff : .closeReq ∈ outputs s i ↔
    ownOutput s i = some .closeReq ∨ (endReason s i).isSome = true := by
  simp [mem_outputs, Option.isSome_iff_exists]

theorem ended_mem_outputs_iff {r : EndReason} : .ended r ∈ outputs s i ↔ endReason s i = some r := by
  simp [mem_outputs, ownOutput_ne_ended]

/-- R80: no output comes twice, since CLOSE, the one rule with a CLOSE_REQ of its own, ends no running loop. -/
theorem outputs_nodup : (outputs s i).Nodup := by
  cases hr : endReason s i with
  | none => cases ho : ownOutput s i <;> simp [outputs, hr, ho]
  | some r =>
    have hclose : ownOutput s i ≠ some .closeReq := fun ho => by
      obtain ⟨⟨x, rfl⟩, -⟩ := ownOutput_eq_closeReq_iff.1 ho
      simp [endReason] at hr
    have hended := ownOutput_ne_ended (i := i) (s := s) r
    cases ho : ownOutput s i with
    | none => simp [outputs, hr, ho]
    | some e =>
      rw [ho] at hclose hended
      simpa [outputs, hr, ho] using And.intro (mt (congrArg some) hclose) (mt (congrArg some) hended)

/-! What an event emits, and where a loop ends. -/

/-- An event adds its outputs to the trace, and a running loop ends exactly where the event has a reason for it. -/
theorem Effect.outputs_and_end (he : Effect s i t) :
    t.trace = s.trace ++ outputs s i ∧ ((endReason s i).isSome = true ↔ RunningLoopEnds s t) := by
  cases he with
  | scan _ hl | discard hl | marker hl => simp [outputs, ownOutput, endReason, RunningLoopEnds, Loop.running, hl]
  | payload _ _ hc | delimiter1 _ _ hc | timing _ _ _ hc =>
    have hne : s.rdCnt ≠ 2 * s.cfg.n + 5 := by omega
    simp [outputs, ownOutput, endReason, RunningLoopEnds, hne]
  | frame _ hl hc hp | frameStop _ hl hc hp =>
    simp [outputs, ownOutput, endReason, RunningLoopEnds, Loop.running, hl, hc, hp]
  | timeout _ hr | ioFailure _ hr =>
    have hterminated : Loop.terminated.running = false := rfl
    simp [outputs, ownOutput, endReason, RunningLoopEnds, FatalKind.reason, hr, hterminated]
  | timeoutIgnored _ _ hr | ioFailureIgnored _ _ hr | closeRejected _ hr =>
    simp [outputs, ownOutput, endReason, RunningLoopEnds, hr]
  | close _ _ hr hc | closeClosed _ _ hr hc | start _ _ hr hc =>
    simp [outputs, ownOutput, endReason, RunningLoopEnds, hr, hc]
  | startRejected _ _ h => rcases h with h | h <;> simp [outputs, ownOutput, endReason, RunningLoopEnds, h]
  | stop _ hl | stopDeferred _ hl => simp [outputs, ownOutput, endReason, RunningLoopEnds, Loop.running, hl]
  | stopIdle _ _ hr =>
    have hl : s.loop ≠ .syncing := fun hl => by simp [running_of_syncing hl] at hr
    simp [outputs, ownOutput, endReason, RunningLoopEnds, hl, hr]
  | openOk | openOkRejected | openFail | openFailRejected | reserved0 | reserved8F =>
    simp [outputs, ownOutput, endReason, RunningLoopEnds]

/-- R24, R165, R181. -/
theorem Effect.conn_closed_of_loop_ends (he : Effect s i t) (hends : RunningLoopEnds s t) : t.conn = .closed := by
  obtain ⟨hrun, hstop⟩ := hends
  cases he with
  | frameStop | stop | timeout | ioFailure => rfl
  | marker | frame | start => cases hstop
  | _ => exact absurd (hrun.symm.trans hstop) (by decide)

/-- R94. -/
theorem Effect.conn_closed_of_close {x : BitVec 8} (he : Effect s (.close x) t) (hr : s.loop.running = false) :
    t.conn = .closed := by
  cases he with
  | close => rfl
  | closeClosed _ _ _ hc => exact hc
  | closeRejected _ hr' => exact absurd (hr'.symm.trans hr) (by decide)

end OutputsOfAnEvent

/-- Settles O51: `outputs` are what the event adds, and each clause is about what they hold. -/
theorem outputsComeOnlyFromTheirRules : Obligations.OutputsComeOnlyFromTheirRules := by
  intro i s t hexec
  have he := exec_effect hexec
  obtain ⟨htrace, hend⟩ := he.outputs_and_end
  have hframe {vs tv} := frame_mem_outputs_iff.trans (ownOutput_eq_frame_iff (i := i) (s := s) (vs := vs) (tv := tv))
  have hclose := closeReq_mem_outputs_iff.trans (or_congr (ownOutput_eq_closeReq_iff (i := i) (s := s)) hend)
  have hended {r} (hr : .ended r ∈ outputs s i) : RunningLoopEnds s t :=
    hend.1 (Option.isSome_of_eq_some (ended_mem_outputs_iff.1 hr))
  refine ⟨outputs s i, htrace, outputs_nodup, fun _ _ => hframe, fun vs tv hmem => ?_,
    flushReq_mem_outputs_iff.trans ownOutput_eq_flushReq_iff, hclose, fun hmem => ?_,
    ended_mem_outputs_iff.trans endReason_eq_stopped_iff, ended_mem_outputs_iff.trans endReason_eq_timeout_iff,
    ended_mem_outputs_iff.trans endReason_eq_ioFailure_iff, fun r hmem => ?_⟩
  · obtain ⟨-, -, -, rfl, -⟩ := hframe.1 hmem
    exact samples_length s
  · rcases hclose.1 hmem with ⟨⟨x, rfl⟩, hr, -⟩ | hends
    · exact he.conn_closed_of_close hr
    · exact he.conn_closed_of_loop_ends hends
  · obtain ⟨hrun, hstop⟩ := hended hmem
    exact ⟨hrun, hstop, he.conn_closed_of_loop_ends ⟨hrun, hstop⟩⟩

end Sys2Proof.Machine

/-!
Proofs of the family 30_encoding.md, event words: the decoder and the encoder are inverse (R70, R71, R74), a word is
of one row of R88's table (R79), and ignored data bits have no effect (R73, R74, R75, R78).
-/

namespace Sys2Proof

/-! ## A word is its kind above its data -/

theorem evKind_append_evData (ev : EventWord) : evKind ev ++ evData ev = ev :=
  BitVec.extractLsb'_append_extractLsb'

@[simp] theorem evKind_append (k : BitVec 4) (d : BitVec 8) : evKind (k ++ d) = k :=
  BitVec.extractLsb'_append_eq_left

@[simp] theorem evData_append (k : BitVec 4) (d : BitVec 8) : evData (k ++ d) = d :=
  BitVec.extractLsb'_append_eq_right

theorem getLsbD_zero_append (k : BitVec 4) (d : BitVec 8) : (k ++ d).getLsbD 0 = d.getLsbD 0 := by
  rw [BitVec.getLsbD_append, if_pos (by decide)]

theorem exists_eq_append (ev : EventWord) : ∃ (k : BitVec 4) (d : BitVec 8), ev = k ++ d :=
  ⟨_, _, (evKind_append_evData ev).symm⟩

/-- R71's kinds: eight single ones, then the reserved ones from 0x8 on, whose top bit is 1. -/
theorem kind_cases (k : BitVec 4) :
    k = 0x0 ∨ k = 0x1 ∨ k = 0x2 ∨ k = 0x3 ∨ k = 0x4 ∨ k = 0x5 ∨ k = 0x6 ∨ k = 0x7 ∨
      ∃ j : BitVec 3, k = (1 : BitVec 1) ++ j := by
  revert k
  decide

/-! ## The decoder, kind by kind -/

section DecodeByKind
variable (d : BitVec 8)

theorem decode_kind_reserved0 : decode ((0x0 : BitVec 4) ++ d) = .reserved0 d := by simp [decode]

theorem decode_kind_rxByte : decode ((0x1 : BitVec 4) ++ d) = .rxByte d := by simp [decode]

theorem decode_kind_rxTimeout : decode ((0x2 : BitVec 4) ++ d) = .rxTimeout d := by simp [decode]

theorem decode_kind_rxIofail : decode ((0x3 : BitVec 4) ++ d) = .rxIofail d := by simp [decode]

theorem decode_kind_open : decode ((0x4 : BitVec 4) ++ d) = decodeOpen d := by simp [decode]

theorem decode_kind_close : decode ((0x5 : BitVec 4) ++ d) = .close d := by simp [decode]

theorem decode_kind_start : decode ((0x6 : BitVec 4) ++ d) = .start d := by simp [decode]

theorem decode_kind_stop : decode ((0x7 : BitVec 4) ++ d) = .stop d := by simp [decode]

/-- R77: a kind whose top bit is 1 is reserved, whatever its other bits. -/
theorem decode_kind_reserved8F (k : BitVec 3) :
    decode (((1 : BitVec 1) ++ k : BitVec 4) ++ d) = .reserved8F k d := by
  have hkind : 8 ≤ ((1 : BitVec 1) ++ k : BitVec 4).toNat := by revert k; decide
  have hbits : (((1 : BitVec 1) ++ k : BitVec 4) ++ d).extractLsb' 8 3 = k := by
    rw [BitVec.extractLsb'_append_eq_of_le (by decide)]
    exact BitVec.extractLsb'_append_eq_right
  rw [decode, evKind_append, evData_append, hbits]
  split
  case h_9 => rfl
  all_goals omega

end DecodeByKind

/-- R74: the lowest data bit of an OPEN is its answer, the seven above it are kept. -/
theorem decodeOpen_append (x : BitVec 7) (a : BitVec 1) :
    decodeOpen (x ++ a) = if a = 1 then .openOk x else .openFail x := by
  have hanswer : (x ++ a).getLsbD 0 = a.getLsbD 0 := by
    rw [BitVec.getLsbD_append, if_pos Nat.one_pos]
  have hignored : (x ++ a).extractLsb' 1 7 = x := BitVec.extractLsb'_append_eq_left
  rw [decodeOpen, hanswer, hignored]
  rcases BitVec.eq_zero_or_eq_one a with rfl | rfl <;> rfl

/-! ## Decode and encode -/

/-- R71, R74, R77: an event is read back from its own word. -/
theorem decode_encode (i : Instr) : decode (encode i) = i := by
  cases i with
  | rxByte b => exact decode_kind_rxByte b
  | rxTimeout x => exact decode_kind_rxTimeout x
  | rxIofail x => exact decode_kind_rxIofail x
  | openOk x => exact (decode_kind_open _).trans (decodeOpen_append x 1)
  | openFail x => exact (decode_kind_open _).trans (decodeOpen_append x 0)
  | close x => exact decode_kind_close x
  | start x => exact decode_kind_start x
  | stop x => exact decode_kind_stop x
  | reserved0 x => exact decode_kind_reserved0 x
  | reserved8F k x => exact decode_kind_reserved8F x k

/-- R74: an OPEN keeps its answer and its ignored bits. -/
theorem encode_decodeOpen (d : BitVec 8) : encode (decodeOpen d) = (0x4 : BitVec 4) ++ d := by
  obtain ⟨x, a, rfl⟩ : ∃ (x : BitVec 7) (a : BitVec 1), d = x ++ a :=
    ⟨_, _, (BitVec.extractLsb'_append_extractLsb' (w := 7) (len := 1)).symm⟩
  rw [decodeOpen_append]
  rcases BitVec.eq_zero_or_eq_one a with rfl | rfl <;> rfl

/-- R79: every word is the word of the event it decodes to. -/
theorem encode_decode (ev : EventWord) : encode (decode ev) = ev := by
  obtain ⟨k, d, rfl⟩ := exists_eq_append ev
  rcases kind_cases k with rfl | rfl | rfl | rfl | rfl | rfl | rfl | rfl | ⟨j, rfl⟩
  · rw [decode_kind_reserved0, encode]
  · rw [decode_kind_rxByte, encode]
  · rw [decode_kind_rxTimeout, encode]
  · rw [decode_kind_rxIofail, encode]
  · rw [decode_kind_open, encode_decodeOpen]
  · rw [decode_kind_close, encode]
  · rw [decode_kind_start, encode]
  · rw [decode_kind_stop, encode]
  · rw [decode_kind_reserved8F, encode]

/-- Settles O1: kind by kind, by the equations of the decoder. -/
theorem decodeEncodeAreInverse : Obligations.DecodeEncodeAreInverse :=
  ⟨decode_encode, encode_decode⟩

/-- Settles O3: each word is the word of its event. -/
theorem wordsOfTheVectorsDecode : Obligations.WordsOfTheVectorsDecode :=
  ⟨decode_encode (.rxByte 0x0A), decode_encode (.rxTimeout 0), decode_encode (.rxIofail 0),
    decode_encode (.openOk 0x7F), decode_encode (.openFail 0x7F), decode_encode (.close 0), decode_encode (.start 0),
    decode_encode (.stop 0), decode_encode (.reserved0 0), decode_encode (.reserved8F 7 0x55)⟩

/-! ## The rows of the table -/

/-- R71, R88: the word of an event is of the event's row. -/
theorem exists_row_of_encode (i : Instr) : Laws.EncodingMatchesRow.Statement i := by
  cases i with
  | rxByte b => exact Laws.EncodingMatchesRow.rxByte b
  | rxTimeout x => exact Laws.EncodingMatchesRow.rxTimeout x
  | rxIofail x => exact Laws.EncodingMatchesRow.rxIofail x
  | openOk x => exact Laws.EncodingMatchesRow.openOk x
  | openFail x => exact Laws.EncodingMatchesRow.openFail x
  | close x => exact Laws.EncodingMatchesRow.close x
  | start x => exact Laws.EncodingMatchesRow.start x
  | stop x => exact Laws.EncodingMatchesRow.stop x
  | reserved0 x => exact Laws.EncodingMatchesRow.reserved0 x
  | reserved8F k x => exact Laws.EncodingMatchesRow.reserved8F k x

/-- R88: two rows that agree on every bit both their masks hold are one row. -/
theorem opcodeRow_eq_of_patterns_agree :
    ∀ r ∈ opcodeRows, ∀ r' ∈ opcodeRows, r.pat &&& r'.mask = r'.pat &&& r.mask → r = r' := by
  decide

/-- R79: the rows of the table exclude each other. -/
theorem opcodeRow_unique {r r' : OpcodeRow} {ev : EventWord} (hr : r ∈ opcodeRows) (hr' : r' ∈ opcodeRows)
    (hm : rowMatches r ev = true) (hm' : rowMatches r' ev = true) : r = r' := by
  have hpat : ev &&& r.mask = r.pat := by simpa [rowMatches] using hm
  have hpat' : ev &&& r'.mask = r'.pat := by simpa [rowMatches] using hm'
  refine opcodeRow_eq_of_patterns_agree r hr r' hr' ?_
  rw [← hpat, ← hpat', BitVec.and_assoc, BitVec.and_assoc, BitVec.and_comm r.mask]

/-! ## The data bits of an event -/

/-- The event with every data bit its row leaves open at 0. -/
def Instr.clearData : Instr → Instr
  | .rxByte _ => .rxByte 0
  | .rxTimeout _ => .rxTimeout 0
  | .rxIofail _ => .rxIofail 0
  | .openOk _ => .openOk 0
  | .openFail _ => .openFail 0
  | .close _ => .close 0
  | .start _ => .start 0
  | .stop _ => .stop 0
  | .reserved0 _ => .reserved0 0
  | .reserved8F k _ => .reserved8F k 0

theorem Instr.mnemonic_clearData (i : Instr) : i.clearData.mnemonic = i.mnemonic := by cases i <;> rfl

theorem clearData_decodeOpen {d d' : BitVec 8} (h : d.getLsbD 0 = d'.getLsbD 0) :
    (decodeOpen d).clearData = (decodeOpen d').clearData := by
  rw [decodeOpen, decodeOpen, h]
  split <;> rfl

/-- R71, R74: but for its open data bits, an event is fixed by `EV[11:8]` and, for OPEN, `EV[0]`. -/
theorem clearData_decode_eq {ev ev' : EventWord} (hkind : evKind ev = evKind ev')
    (hanswer : evKind ev = 4 → ev.getLsbD 0 = ev'.getLsbD 0) :
    (decode ev).clearData = (decode ev').clearData := by
  obtain ⟨k, d, rfl⟩ := exists_eq_append ev
  obtain ⟨k', d', rfl⟩ := exists_eq_append ev'
  simp only [evKind_append, getLsbD_zero_append] at hkind hanswer
  subst k'
  rcases kind_cases k with rfl | rfl | rfl | rfl | rfl | rfl | rfl | rfl | ⟨j, rfl⟩
  · rw [decode_kind_reserved0, decode_kind_reserved0]; rfl
  · rw [decode_kind_rxByte, decode_kind_rxByte]; rfl
  · rw [decode_kind_rxTimeout, decode_kind_rxTimeout]; rfl
  · rw [decode_kind_rxIofail, decode_kind_rxIofail]; rfl
  · rw [decode_kind_open, decode_kind_open, clearData_decodeOpen (hanswer rfl)]
  · rw [decode_kind_close, decode_kind_close]; rfl
  · rw [decode_kind_start, decode_kind_start]; rfl
  · rw [decode_kind_stop, decode_kind_stop]; rfl
  · rw [decode_kind_reserved8F, decode_kind_reserved8F]; rfl

/-- Settles O2: the row of a word is that of its event by `encode_decode`, and no other by `opcodeRow_unique`. -/
theorem everyWordIsOfExactlyOneRow : Obligations.EveryWordIsOfExactlyOneRow := by
  refine ⟨fun ev => ?_, fun ev ev' hkind hanswer => ?_⟩
  · obtain ⟨r, hr, hmnemonic, hmatch⟩ := exists_row_of_encode (decode ev)
    rw [encode_decode] at hmatch
    exact ⟨r, hr, hmatch, hmnemonic.symm, fun r' hr' hmatch' => opcodeRow_unique hr' hr hmatch' hmatch⟩
  · rw [← Instr.mnemonic_clearData, clearData_decode_eq hkind hanswer, Instr.mnemonic_clearData]

end Sys2Proof

namespace Sys2Proof.Machine

/-- R73 to R75, R77: of the data, a step reads only RX_BYTE's byte and OPEN's answer. -/
theorem exec_clearData {i : Instr} (hi : ∀ b, i ≠ .rxByte b) (s : State) : exec i.clearData s = exec i s := by
  cases i with
  | rxByte b => exact absurd rfl (hi b)
  | rxTimeout | rxIofail | openOk | openFail | close | start | stop | reserved0 | reserved8F => rfl

/-- R72: only a word of kind 1 is an RX_BYTE. -/
theorem decode_ne_rxByte {ev : EventWord} (h : evKind ev ≠ 1) (b : Byte) : decode ev ≠ .rxByte b := by
  intro hdecode
  rw [← encode_decode ev, hdecode, encode, evKind_append] at h
  exact h rfl

/-- Settles O4: the two events are one but for data bits, and no event but RX_BYTE reads those. -/
theorem ignoredDataBitsGiveTheSameStep : Obligations.IgnoredDataBitsGiveTheSameStep := by
  intro ev ev' s hkind hne hanswer
  rw [← exec_clearData (decode_ne_rxByte hne), clearData_decode_eq hkind hanswer,
    exec_clearData (decode_ne_rxByte (hkind ▸ hne))]

end Sys2Proof.Machine

/-!
Proofs of the family 30_encoding.md, the step: an event runs from the port (R70), which events have one (R76), and
the reserved kinds (R77).
-/

namespace Sys2Proof.Machine

/-- Settles O5: the port hands over the word's event and the inputs behind it. -/
theorem stepRunsTheDecodedEvent : Obligations.StepRunsTheDecodedEvent := by
  intro s ev i rest hwf hinput hdecode
  have htaken : takeInput s = .event i { s with input := rest } := by rw [takeInput, hinput, ← hdecode]
  rw [step, if_pos hwf, htaken]

/-- Settles O41. -/
theorem reservedKindsAreRejected : Obligations.ReservedKindsAreRejected :=
  fun _ _ _ hheld => ⟨nextIfHeld_eq_next.2 ⟨hheld, rfl⟩, nextIfHeld_eq_next.2 ⟨hheld, rfl⟩⟩

/-! ## Which events have a step -/

/-- R76: outside SYNCING and READING the byte source keeps the byte. -/
theorem exec_rxByte_of_not_running (b : Byte) {s : State} (hheld : s.loop.held = true)
    (hrun : s.loop.running = false) : exec (.rxByte b) s = .refused .rxNotReady := by
  rcases Loop.held_not_running_iff.1 ⟨hheld, hrun⟩ with hl | hl | hl <;> simp [exec, execRxByte, hl]

/-- R106, R107: RX_BYTE in SYNCING is the scanner's. -/
theorem exec_rxByte_syncing (b : Byte) {s : State} (hl : s.loop = .syncing) :
    exec (.rxByte b) s = .next (scan b s) := by simp [exec, execRxByte, hl]

/-- R120: every byte of a body has a role, and with it a step. -/
theorem exists_exec_rxByte_reading (b : Byte) {s : State} (hl : s.loop = .reading)
    (hc : s.rdCnt ≤ 2 * s.cfg.n + 5) : ∃ t, exec (.rxByte b) s = .next t := by
  rcases bodyRole_cases s.cfg.n s.rdCnt with ⟨h, -⟩ | ⟨h, -⟩ | ⟨h, h', -⟩ | ⟨h, -⟩ | ⟨h, -⟩
  · exact ⟨_, exec_rxByte_payload b hl h⟩
  · exact ⟨_, exec_rxByte_delimiter1 b hl h⟩
  · exact ⟨_, exec_rxByte_timing b hl h h'⟩
  · exact ⟨_, exec_rxByte_delimiter2 b hl h⟩
  · omega

/-- R76: an event that is no byte has a step wherever `loop` is held. -/
theorem exists_exec_of_held {i : Instr} (hi : ∀ b, i ≠ .rxByte b) {s : State} (hheld : s.loop.held = true) :
    ∃ t, exec i s = .next t := by
  obtain ⟨t, ht⟩ := exec_eq_nextIfHeld hi s
  exact ⟨t, ht.trans (nextIfHeld_eq_next.2 ⟨hheld, rfl⟩)⟩

/-- Settles O8. -/
theorem onlyAByteWhileNotReadyHasNoStep : Obligations.OnlyAByteWhileNotReadyHasNoStep := by
  refine ⟨fun b s => exec_rxByte_of_not_running b, fun b s hready hc => ?_, fun i s hheld hi =>
    exists_exec_of_held hi hheld⟩
  rcases Loop.running_iff.1 hready with hl | hl
  · exact ⟨_, exec_rxByte_syncing b hl⟩
  · exact exists_exec_rxByte_reading b hl hc

end Sys2Proof.Machine

/-!
Proofs of the family 30_encoding.md, the wire format (R65 to R68) and the words of a script line (R78, R85, R86).
-/

namespace Sys2Proof.Machine

/-! ## Lengths on the wire -/

@[simp] theorem length_sampleBytes (v : U16) : (sampleBytes v).length = 2 := rfl

@[simp] theorem length_timingBytes (tv : U32) : (timingBytes tv).length = 4 := rfl

/-- R65, R214. -/
theorem length_bodyBytes (vs : List U16) (tv : U32) (d1 d2 : Byte) :
    (bodyBytes vs tv d1 d2).length = bodyLen vs.length := by
  simp [bodyBytes, mul_comm 2]

/-- R7. -/
theorem length_marker_of_wf {p : Params} (h : p.wf = true) : p.marker.length = 37 := by
  simp only [Params.wf, Params.markerLength, Bool.and_eq_true, beq_iff_eq] at h
  obtain ⟨⟨⟨-, hlength⟩, -⟩, -⟩ := h
  exact hlength

/-! ## Reading a body back -/

/-- R67: a sample is its high byte above its low one. -/
theorem ofNat_sampleBytes (v : U16) :
    BitVec.ofNat 16 ((v.extractLsb' 0 8).toNat + 2 ^ 8 * (v.extractLsb' 8 8).toNat) = v := by
  apply BitVec.eq_of_toNat_eq
  have hlt := v.isLt
  simp only [BitVec.toNat_ofNat, BitVec.extractLsb'_toNat, Nat.shiftRight_eq_div_pow]
  omega

/-- R68: the timing value is its four bytes, the first one lowest. -/
theorem ofNat_timingBytes (tv : U32) :
    BitVec.ofNat 32 ((tv.extractLsb' 0 8).toNat + 2 ^ 8 * (tv.extractLsb' 8 8).toNat
      + 2 ^ 16 * (tv.extractLsb' 16 8).toNat + 2 ^ 24 * (tv.extractLsb' 24 8).toNat) = tv := by
  apply BitVec.eq_of_toNat_eq
  have hlt := tv.isLt
  simp only [BitVec.toNat_ofNat, BitVec.extractLsb'_toNat, Nat.shiftRight_eq_div_pow]
  omega

theorem wireSample_zero (v : U16) (body : List Byte) : wireSample (sampleBytes v ++ body) 0 = v :=
  ofNat_sampleBytes v

/-- Each sample lies two bytes behind the one before it. -/
theorem wireSample_succ (v : U16) (body : List Byte) (i : Nat) :
    wireSample (sampleBytes v ++ body) (i + 1) = wireSample body i := rfl

theorem wireSamples_succ (v : U16) (body : List Byte) (n : Nat) :
    wireSamples (n + 1) (sampleBytes v ++ body) = v :: wireSamples n body := by
  rw [wireSamples, List.range_succ_eq_map, List.map_cons, List.map_map, wireSample_zero]
  rfl

theorem wireTiming_succ (v : U16) (body : List Byte) (n : Nat) :
    wireTiming (n + 1) (sampleBytes v ++ body) = wireTiming n body := rfl

/-- R67: the samples a payload carries, whatever follows it. -/
theorem wireSamples_payload (vs : List U16) (rest : List Byte) :
    wireSamples vs.length (vs.flatMap sampleBytes ++ rest) = vs := by
  induction vs with
  | nil => rfl
  | cons v vs ih => rw [List.flatMap_cons, List.append_assoc, List.length_cons, wireSamples_succ, ih]

/-- R68: the timing value lies behind the payload and delimiter 1. -/
theorem wireTiming_payload (vs : List U16) (tv : U32) (d1 : Byte) (rest : List Byte) :
    wireTiming vs.length (vs.flatMap sampleBytes ++ (d1 :: (timingBytes tv ++ rest))) = tv := by
  induction vs with
  | nil => exact ofNat_timingBytes tv
  | cons v vs ih => rw [List.flatMap_cons, List.append_assoc, List.length_cons, wireTiming_succ, ih]

/-- Settles O59: lengths add up, and the reads are by induction on the samples. -/
theorem wireBytesCarryTheFrame : Obligations.WireBytesCarryTheFrame := by
  intro p vs tv d1 d2 hwf hlen
  have hbody := length_bodyBytes vs tv d1 d2
  rw [← hlen]
  refine ⟨hbody, ?_, wireSamples_payload vs _, wireTiming_payload vs tv d1 [d2]⟩
  rw [frameBytes, List.length_append, length_marker_of_wf hwf, hbody]
  exact (Nat.add_assoc _ _ _).symm

/-! ## The words of a script line -/

/-- R85, R86: a line stands for bytes, or for one event with its ignored bits 0, or is a `.word`. -/
theorem ScriptLine.words_cases {p : Params} {l : ScriptLine} {ws : List EventWord} (h : l.words p = .ok ws) :
    (∃ bs, ws = byteWords bs) ∨ (∃ i : Instr, i.ignoredBitsZero = true ∧ ws = [encode i]) ∨ ∃ w, l = .word w := by
  cases l with
  | byte | bytes | text | line | marker => cases h; exact .inl ⟨_, rfl⟩
  | timeout => cases h; exact .inr (.inl ⟨.rxTimeout 0, rfl, rfl⟩)
  | iofail => cases h; exact .inr (.inl ⟨.rxIofail 0, rfl, rfl⟩)
  | openOk => cases h; exact .inr (.inl ⟨.openOk 0, rfl, rfl⟩)
  | openFail => cases h; exact .inr (.inl ⟨.openFail 0, rfl, rfl⟩)
  | close => cases h; exact .inr (.inl ⟨.close 0, rfl, rfl⟩)
  | start => cases h; exact .inr (.inl ⟨.start 0, rfl, rfl⟩)
  | stop => cases h; exact .inr (.inl ⟨.stop 0, rfl, rfl⟩)
  | word w => exact .inr (.inr ⟨w, rfl⟩)
  | body | frame =>
    simp only [ScriptLine.words] at h
    split at h
    · cases h; exact .inl ⟨_, rfl⟩
    · cases h

/-- Settles O60: each word is an event's own, read back by `decode_encode`; RX_BYTE has no ignored bit. -/
theorem scriptWritesIgnoredBitsAsZero : Obligations.ScriptWritesIgnoredBitsAsZero := by
  intro p l ws hwords hne ev hev
  rcases ScriptLine.words_cases hwords with ⟨bs, rfl⟩ | ⟨i, hi, rfl⟩ | ⟨w, rfl⟩
  · obtain ⟨b, -, rfl⟩ := List.mem_map.1 hev
    rw [decode_encode]
    rfl
  · rw [List.mem_singleton.1 hev, decode_encode, hi]
  · exact absurd rfl (hne w)

end Sys2Proof.Machine

/-!
Proofs of the family 40_byte_source.md: OPEN depends on the connection alone (R91 to R93), CLOSE on the loop first
(R95) and then on the connection (R94).
-/

namespace Sys2Proof.Machine

/-! ## OPEN -/

/-- R91, R92: a closed connection accepts OPEN; `answered` is what the byte source's answer changes. -/
theorem openCommand_closed (answered : State → State) {s : State} (hheld : s.loop.held = true)
    (hconn : s.conn = .closed) : openCommand answered s = .next (accept (answered s)) :=
  nextIfHeld_eq_next.2 ⟨hheld, by rw [hconn]⟩

/-- R93: an open connection rejects OPEN, and the answer plays no part. -/
theorem openCommand_opened (answered : State → State) {s : State} (hheld : s.loop.held = true)
    (hconn : s.conn = .opened) : openCommand answered s = .next (reject s) :=
  nextIfHeld_eq_next.2 ⟨hheld, by rw [hconn]⟩

theorem exec_openOk (x : BitVec 7) (s : State) :
    exec (.openOk x) s = openCommand (fun u => { u with conn := .opened }) s := rfl

theorem exec_openFail (x : BitVec 7) (s : State) :
    exec (.openFail x) s = openCommand (fun u => { u with lastError := .portUnavailable }) s := rfl

/-- Settles O12. -/
theorem openOkOpensAClosedConnection : Obligations.OpenOkOpensAClosedConnection :=
  fun x s hheld hconn => (exec_openOk x s).trans (openCommand_closed _ hheld hconn)

/-- Settles O13. -/
theorem openFailRecordsPortUnavailable : Obligations.OpenFailRecordsPortUnavailable :=
  fun x s hheld hconn => (exec_openFail x s).trans (openCommand_closed _ hheld hconn)

/-- Settles O14: one rejection for both answers. -/
theorem openWhenOpenIsRejected : Obligations.OpenWhenOpenIsRejected :=
  fun x s hheld hconn =>
    ⟨(exec_openOk x s).trans (openCommand_opened _ hheld hconn),
      (exec_openFail x s).trans (openCommand_opened _ hheld hconn)⟩

/-! ## CLOSE -/

theorem closeConnection_opened {s : State} (hconn : s.conn = .opened) :
    closeConnection s = { emit .closeReq s with conn := .closed } := by rw [closeConnection, hconn]

/-- R94: nothing to close, so no CLOSE_REQ. -/
theorem closeConnection_closed {s : State} (hconn : s.conn = .closed) : closeConnection s = s := by
  rw [closeConnection, hconn]

/-- R94: CLOSE is accepted in every held loop that is not running. -/
theorem exec_close_of_not_running (x : BitVec 8) {s : State} (hheld : s.loop.held = true)
    (hrun : s.loop.running = false) : exec (.close x) s = .next (accept (closeConnection s)) :=
  nextIfHeld_eq_next.2 ⟨hheld, by simp [hrun]⟩

/-- R95: CLOSE is rejected while running, whatever the connection. -/
theorem exec_close_of_running (x : BitVec 8) {s : State} (hrun : s.loop.running = true) :
    exec (.close x) s = .next (reject s) :=
  nextIfHeld_eq_next.2 ⟨Loop.held_of_running hrun, by simp [hrun]⟩

/-- Settles O15: CLOSE is accepted, and the connection says whether there is something to close. -/
theorem closeWhenNotRunning : Obligations.CloseWhenNotRunning := by
  intro x s hloop
  obtain ⟨hheld, hrun⟩ := Loop.held_not_running_iff.2 hloop
  rw [exec_close_of_not_running x hheld hrun]
  refine ⟨fun hconn => ?_, fun hconn => ?_⟩
  · rw [closeConnection_opened hconn]
    rfl
  · rw [closeConnection_closed hconn]
    rfl

/-- Settles O16. -/
theorem closeWhileRunningIsRejected : Obligations.CloseWhileRunningIsRejected :=
  fun x _ hloop => exec_close_of_running x (Loop.running_iff.2 hloop)

end Sys2Proof.Machine

/-!
Proofs of the family 41_synchronizer.md: one byte of the scan (R106), the LF that ends a line (R107), and the
scanner against the comparison of whole lines (R105, R108).
-/

namespace Sys2Proof.Machine

/-! ## One byte of the scan -/

/-- R106, with the model's Bool tests read as one condition. -/
theorem scanByte_eq (b : Byte) (s : State) : scanByte b s =
    { s with
      lineMatch := decide (s.lineMatch = true ∧ s.lineLen < 36 ∧ s.cfg.marker[s.lineLen]? = some b)
      lineLen := min (s.lineLen + 1) 37 } := by
  have hmatch : (s.lineMatch && (decide (s.lineLen < 36) && matchesMarkerAt s.cfg s.lineLen b)) =
      decide (s.lineMatch = true ∧ s.lineLen < 36 ∧ s.cfg.marker[s.lineLen]? = some b) := by
    rw [Bool.eq_iff_iff]
    simp only [matchesMarkerAt, Bool.and_eq_true, decide_eq_true_eq, beq_iff_eq]
  rw [scanByte, hmatch]

/-- Settles O17. -/
theorem syncingByteAdvancesTheScan : Obligations.SyncingByteAdvancesTheScan :=
  fun b s hl hb => (exec_rxByte_scan hl hb).trans (congrArg _ (scanByte_eq b s))

/-- R107, at the Marker's LF. -/
theorem exec_rxByte_lf_marker {s : State} (hl : s.loop = .syncing) (h : s.lineMatch = true ∧ s.lineLen = 36) :
    exec (.rxByte LF) s = .next (lineReset { s with loop := .reading, rdCnt := 0 }) := by
  rw [exec_rxByte_lf hl, scanLf_marker h]

/-- R107, at the LF of any other line. -/
theorem exec_rxByte_lf_discard {s : State} (hl : s.loop = .syncing) (h : ¬(s.lineMatch = true ∧ s.lineLen = 36)) :
    exec (.rxByte LF) s = .next (lineReset s) := by
  rw [exec_rxByte_lf hl, scanLf_discard h]

/-- Settles O18. -/
theorem syncingLfEndsTheLine : Obligations.SyncingLfEndsTheLine :=
  fun _ hl => ⟨exec_rxByte_lf_marker hl, exec_rxByte_lf_discard hl⟩

/-! ## The scanner against the comparison of whole lines -/

/-- R7 (a). -/
theorem marker_getElem?_36_of_wf {p : Params} (h : p.wf = true) : p.marker[36]? = some LF := by
  simp only [Params.wf, Params.markerEndsInLf, Bool.and_eq_true, beq_iff_eq] at h
  obtain ⟨⟨-, hlast⟩, -⟩ := h
  exact hlast

/-- R105, R107: a line equals the Marker where its bytes before the LF are 36 and agree with the Marker's, since
the Marker is 37 bytes and ends in LF (R7). -/
theorem concat_lf_eq_marker_iff {p : Params} (h : p.wf = true) {seen : List Byte} :
    seen ++ [LF] = p.marker ↔ MatchesSoFar p.marker seen ∧ seen.length = 36 := by
  have hmarker := length_marker_of_wf h
  constructor
  · intro heq
    have hlen : seen.length = 36 := by simpa [← heq] using hmarker
    exact ⟨⟨hlen.le, fun k hk => by rw [← heq, List.getElem?_append_left hk]⟩, hlen⟩
  · rintro ⟨⟨-, hall⟩, hlen⟩
    refine List.ext_getElem? fun k => ?_
    rcases lt_trichotomy k 36 with hk | rfl | hk
    · rw [List.getElem?_append_left (by omega), hall k (by omega)]
    · rw [marker_getElem?_36_of_wf h, ← hlen, List.getElem?_concat_length]
    · rw [List.getElem?_eq_none (by simp; omega), List.getElem?_eq_none (by omega)]

/-- What the scanner tests at an LF (R107) is what it knows of the whole line: `line_len` saturates at 37, so 36
is the line's own length. -/
theorem lineSoFar_ends_marker_iff {s : State} (h : s.cfg.wf = true) {seen : List Byte} :
    (lineSoFar seen s).lineMatch = true ∧ (lineSoFar seen s).lineLen = 36 ↔ seen ++ [LF] = s.cfg.marker := by
  have hlen : min seen.length 37 = 36 ↔ seen.length = 36 := by omega
  rw [concat_lf_eq_marker_iff h, decide_eq_true_iff, hlen]

/-- R107: after an LF the scanner has read nothing of the next line. -/
theorem lineReset_lineSoFar (seen : List Byte) (s : State) : lineReset (lineSoFar seen s) = lineSoFar [] s := by
  simp [lineReset, lineSoFar, MatchesSoFar]

theorem receiveUntilReading_cons_reading {b : Byte} {bs : List Byte} {s t : State}
    (h : exec (.rxByte b) s = .next t) (hl : t.loop = .reading) :
    receiveUntilReading s (b :: bs) = some bs := by simp [receiveUntilReading, h, hl]

theorem receiveUntilReading_cons_syncing {b : Byte} {bs : List Byte} {s t : State}
    (h : exec (.rxByte b) s = .next t) (hl : t.loop = .syncing) :
    receiveUntilReading s (b :: bs) = receiveUntilReading t bs := by simp [receiveUntilReading, h, hl]

theorem referenceSync_cons_lf (marker line bs : List Byte) : referenceSync marker line (LF :: bs) =
    if line ++ [LF] = marker then some bs else referenceSync marker [] bs := by simp [referenceSync]

theorem referenceSync_cons_of_ne_lf {b : Byte} (hb : b ≠ LF) (marker line bs : List Byte) :
    referenceSync marker line (b :: bs) = referenceSync marker (line ++ [b]) bs := by simp [referenceSync, hb]

/-- R108 from inside a line: the reference algorithm keeps the line's bytes `seen`, the scanner only their count
and whether they agree with the Marker's. -/
theorem receiveUntilReading_lineSoFar {s : State} (hwf : s.cfg.wf = true) (hl : s.loop = .syncing)
    (seen bs : List Byte) :
    receiveUntilReading (lineSoFar seen s) bs = referenceSync s.cfg.marker seen bs := by
  induction bs generalizing seen with
  | nil => rfl
  | cons b bs ih =>
    by_cases hb : b = LF
    · subst hb
      rw [referenceSync_cons_lf]
      by_cases hline : seen ++ [LF] = s.cfg.marker
      · have hstep := exec_rxByte_lf_marker (s := lineSoFar seen s) hl ((lineSoFar_ends_marker_iff hwf).2 hline)
        rw [if_pos hline, receiveUntilReading_cons_reading hstep rfl]
      · have hstep := exec_rxByte_lf_discard (s := lineSoFar seen s) hl (mt (lineSoFar_ends_marker_iff hwf).1 hline)
        rw [lineReset_lineSoFar] at hstep
        rw [if_neg hline, receiveUntilReading_cons_syncing hstep hl, ih]
    · have hstep := exec_rxByte_scan (s := lineSoFar seen s) hl hb
      rw [scanByte_lineSoFar] at hstep
      rw [referenceSync_cons_of_ne_lf hb, receiveUntilReading_cons_syncing hstep hl, ih]

/-- Settles O20: a line start is `receiveUntilReading_lineSoFar` with nothing read of the line. -/
theorem scannerAgreesWithLineComparison : Obligations.ScannerAgreesWithLineComparison := by
  intro bs s hwf hl hlen hmatch
  simpa only [lineSoFar_nil hlen hmatch] using receiveUntilReading_lineSoFar hwf hl [] bs

end Sys2Proof.Machine

/-!
Proofs of the family 42_frame_reader.md: what each byte of a body does, by its position (R121 to R126), and a body
cut short by a failed read (R130, R183).
-/

namespace Sys2Proof.Machine

/-! ## A read that fails inside a body -/

/-- R179, R180: while running, what RX_TIMEOUT and RX_IOFAIL share is fatal. -/
theorem nextIfHeld_readError_running (k : FatalKind) {s : State} (hrun : s.loop.running = true) :
    nextIfHeld s (readError k s) = .next (raiseFatal k s) :=
  nextIfHeld_eq_next.2 ⟨Loop.held_of_running hrun, readError_running k hrun⟩

theorem exec_rxTimeout_running (x : BitVec 8) {s : State} (hrun : s.loop.running = true) :
    exec (.rxTimeout x) s = .next (raiseFatal .timeout s) := nextIfHeld_readError_running .timeout hrun

theorem exec_rxIofail_running (x : BitVec 8) {s : State} (hrun : s.loop.running = true) :
    exec (.rxIofail x) s = .next (raiseFatal .ioFailure s) := nextIfHeld_readError_running .ioFailure hrun

/-- R130, R183: an event that is fatal while running, after a body short of delimiter 2. The bytes before it emitted
nothing, by `receive_insideBody`. -/
theorem execAll_fatal_insideBody {k : FatalKind} {i : Instr}
    (hfatal : ∀ {u : State}, u.loop.running = true → exec i u = .next (raiseFatal k u)) {bs : List Byte} {s : State}
    (hl : s.loop = .reading) (hc : s.rdCnt = 0) (hlen : bs.length < bodyLen s.cfg.n) :
    ∃ t, execAll (bs.map .rxByte ++ [i]) s = .next t ∧ t.loop = .terminated ∧
      t.trace = s.trace ++ [.closeReq, .ended k.reason] := by
  obtain ⟨m, hread, -⟩ := receive_insideBody hl hc bs (Nat.le_of_lt_succ hlen)
  have hstep := hfatal (u := insideBody bs m s) (running_of_reading hl)
  refine ⟨_, (execAll_append_next hread).trans (execAll_cons_next hstep), raiseFatal_loop k _, ?_⟩
  rw [raiseFatal_trace, List.append_assoc, List.singleton_append]

/-- Settles O28: both failures are fatal while running, so `execAll_fatal_insideBody` speaks of each. -/
theorem failureInsideABodyEmitsNoFrame : Obligations.FailureInsideABodyEmitsNoFrame :=
  fun _ x _ hl hc hlen =>
    ⟨execAll_fatal_insideBody (exec_rxTimeout_running x) hl hc hlen,
      execAll_fatal_insideBody (exec_rxIofail_running x) hl hc hlen⟩

/-! ## Stored bytes -/

/-- R121, R123, R124: a byte stored at `a` is read there, and nothing else changes but rd_cnt. -/
theorem storeByte_spec (a : Nat) (b : Byte) (s : State) :
    fbByte (storeByte a b s) a = b ∧ (∀ c, c ≠ a → fbByte (storeByte a b s) c = fbByte s c) ∧
      storeByte a b s = { s with fb := (storeByte a b s).fb, rdCnt := s.rdCnt + 1 } :=
  ⟨by rw [fbByte_storeByte, if_pos rfl], fun c hne => by rw [fbByte_storeByte, if_neg hne], rfl⟩

/-- Settles O21: the payload byte's address is rd_cnt itself. -/
theorem payloadByteIsStored : Obligations.PayloadByteIsStored :=
  fun b s hl hc => ⟨_, exec_rxByte_payload b hl hc, storeByte_spec s.rdCnt b s⟩

/-- Settles O23: `2N + (rd_cnt - 2N - 1)` is the `rd_cnt - 1` of R123's pseudocode. -/
theorem timingByteIsStored : Obligations.TimingByteIsStored := by
  intro b s hl hlow hhigh
  have haddr : 2 * s.cfg.n + (s.rdCnt - 2 * s.cfg.n - 1) = s.rdCnt - 1 := by omega
  rw [haddr]
  exact ⟨_, exec_rxByte_timing b hl hlow hhigh, storeByte_spec (s.rdCnt - 1) b s⟩

/-! ## Delimiters -/

/-- Settles O22. -/
theorem delimiterOneIsConsumed : Obligations.DelimiterOneIsConsumed :=
  fun b _ hl hc => exec_rxByte_delimiter1 b hl hc

/-- R125, R165: a stop that was pending takes effect once the frame is out. -/
theorem finishBody_stop {s : State} (e : OutEvent) (hp : s.stopPending = true) :
    finishBody e s =
      { s with
        conn := .closed, loop := .stopped, lineLen := 0, lineMatch := true, rdCnt := 0, stopPending := false
        trace := s.trace ++ [e, .closeReq, .ended .stopped] } := by
  simp [finishBody, hp, stopAction_eq, lineReset, emit]

/-- Settles O24: the frame is emitted either way, and the pending stop says what follows it. -/
theorem delimiterTwoCompletesTheFrame : Obligations.DelimiterTwoCompletesTheFrame := by
  intro b s hl hc
  rw [exec_rxByte_delimiter2 b hl hc, completeFrame_eq_finishBody]
  refine ⟨fun hp => ?_, fun hp => ?_⟩
  · rw [finishBody_scan _ hp, decodedFrame]
  · rw [finishBody_stop _ hp, decodedFrame]

/-- Settles O25: at neither delimiter does the next state mention the byte. -/
theorem delimitersAreNotValidated : Obligations.DelimitersAreNotValidated := by
  intro b b' s hl hc
  rcases hc with hc | hc
  · rw [exec_rxByte_delimiter1 b hl hc, exec_rxByte_delimiter1 b' hl hc]
  · rw [exec_rxByte_delimiter2 b hl hc, exec_rxByte_delimiter2 b' hl hc]

end Sys2Proof.Machine

/-!
Proofs of the family 43_decoder.md: the unpack rules in bit operations (R140, R141, R145), Decode and its inverse
(R143, R144), and a whole frame on the wire, from the Marker to its FRAME event (R144).
-/

namespace Sys2Proof.Machine

/-! ## The unpack rules -/

/-- R145: each further byte lies above the ones below it, so placing it is a shift and an or, with no carry. -/
theorem ofNat_memRead_succ (w : Nat) (s : State) (a n : Nat) :
    BitVec.ofNat w (memRead s a (n + 1)) =
      (fbByte s a).setWidth w ||| BitVec.ofNat w (memRead s (a + 1) n) <<< 8 := by
  have hor : memRead s a (n + 1) = (fbByte s a).toNat ||| 2 ^ 8 * memRead s (a + 1) n := by
    rw [memRead_succ, Nat.or_comm, ← Nat.two_pow_add_eq_or_of_lt (fbByte s a).isLt, Nat.add_comm]
  have hshift : BitVec.ofNat w (2 ^ 8 * memRead s (a + 1) n) = BitVec.ofNat w (memRead s (a + 1) n) <<< 8 := by
    apply BitVec.eq_of_toNat_eq
    simp [Nat.shiftLeft_eq, Nat.mul_comm]
  rw [hor, BitVec.ofNat_or, BitVec.ofNat_toNat, hshift]

theorem ofNat_memRead_one (w : Nat) (s : State) (a : Nat) :
    BitVec.ofNat w (memRead s a 1) = (fbByte s a).setWidth w := by
  simp [memRead_succ]

/-- Settles O31, by `ofNat_memRead_succ`. -/
theorem sampleUnpacksTwoBytes : Obligations.SampleUnpacksTwoBytes := by
  intro s i
  rw [sample, ofNat_memRead_succ, ofNat_memRead_one]

/-- Settles O32, by `ofNat_memRead_succ` at each byte: a byte's shift is the sum of the shifts below it. -/
theorem timingUnpacksFourBytes : Obligations.TimingUnpacksFourBytes := by
  intro s
  rw [timing, ofNat_memRead_succ, ofNat_memRead_succ, ofNat_memRead_succ, ofNat_memRead_one]
  simp only [BitVec.shiftLeft_or_distrib, ← BitVec.shiftLeft_add, BitVec.or_assoc, Nat.add_assoc, Nat.reduceAdd]

/-! ## Decode and its inverse -/

/-- R48: a value of `n` bytes determines each of them; `memRead_congr` is the converse. -/
theorem fbByte_eq_of_memRead_eq {s t : State} {a n : Nat} (h : memRead s a n = memRead t a n) :
    ∀ k < n, fbByte s (a + k) = fbByte t (a + k) := by
  induction n generalizing a with
  | zero => exact fun k hk => absurd hk (Nat.not_lt_zero k)
  | succ n ih =>
    rw [memRead_succ, memRead_succ] at h
    have hs := (fbByte s a).isLt
    have ht := (fbByte t a).isLt
    intro k hk
    cases k with
    | zero => exact BitVec.eq_of_toNat_eq (by rw [Nat.add_zero]; omega)
    | succ k =>
      have hrest := ih (a := a + 1) (by omega) k (by omega)
      rwa [Nat.add_assoc, Nat.add_comm 1 k] at hrest

/-- R145: `n` bytes fit a word of `8n` bits, so the word determines them too. -/
theorem fbByte_eq_of_ofNat_memRead_eq {s t : State} {a n w : Nat} (hw : w = 8 * n)
    (h : BitVec.ofNat w (memRead s a n) = BitVec.ofNat w (memRead t a n)) :
    ∀ k < n, fbByte s (a + k) = fbByte t (a + k) := by
  have hfit : ∀ u : State, memRead u a n < 2 ^ w := fun u => by
    rw [hw, pow_mul]
    exact memRead_lt u a n
  have hmod := congrArg BitVec.toNat h
  rw [BitVec.toNat_ofNat, BitVec.toNat_ofNat, Nat.mod_eq_of_lt (hfit s), Nat.mod_eq_of_lt (hfit t)] at hmod
  exact fbByte_eq_of_memRead_eq hmod

/-- R144: an address of FB is a sample's low or high byte, or a byte of the timing value. -/
theorem fbLen_cases {n a : Nat} (ha : a < fbLen n) :
    (∃ i < n, ∃ k < 2, a = 2 * i + k) ∨ ∃ k < 4, a = 2 * n + k := by
  rw [fbLen] at ha
  rcases Nat.lt_or_ge a (2 * n) with hlt | hge
  · exact .inl ⟨a / 2, by omega, a % 2, by omega, by omega⟩
  · exact .inr ⟨a - 2 * n, by omega, by omega⟩

/-- R144, injectivity: two contents of FB that decode alike are equal. -/
theorem fbByte_eq_of_decode_eq {s u : State} (hn : u.cfg.n = s.cfg.n) (hsamples : samples s = samples u)
    (htiming : timing s = timing u) {a : Nat} (ha : a < fbLen s.cfg.n) : fbByte s a = fbByte u a := by
  rw [samples, samples, hn, List.map_inj_left] at hsamples
  rw [timing, timing, hn] at htiming
  rcases fbLen_cases ha with ⟨i, hi, k, hk, rfl⟩ | ⟨k, hk, rfl⟩
  · exact fbByte_eq_of_ofNat_memRead_eq rfl (hsamples i (List.mem_range.2 hi)) k hk
  · exact fbByte_eq_of_ofNat_memRead_eq rfl htiming k hk

/-- R140, R144: the inverse's two bytes of a sample decode to it. -/
theorem sample_of_bytes {s : State} {i : Nat} {v : U16} (hlow : fbByte s (2 * i) = v.extractLsb' 0 8)
    (hhigh : fbByte s (2 * i + 1) = v.extractLsb' 8 8) : sample s i = v := by
  rw [sample, memRead_succ, memRead_succ, memRead_zero, hlow, hhigh]
  exact ofNat_sampleBytes v

/-- R141, R144: the inverse's four bytes of a timing value decode to it. -/
theorem timing_of_bytes {s : State} {tv : U32}
    (h : ∀ k < 4, fbByte s (2 * s.cfg.n + k) = tv.extractLsb' (8 * k) 8) : timing s = tv := by
  have h0 := h 0 (by decide)
  have h1 := h 1 (by decide)
  have h2 := h 2 (by decide)
  have h3 := h 3 (by decide)
  simp only [timing, memRead_succ, memRead_zero, Nat.add_assoc, Nat.reduceAdd, Nat.reduceMul, Nat.add_zero]
    at h0 h1 h2 h3 ⊢
  rw [h0, h1, h2, h3]
  exact (congrArg (BitVec.ofNat 32) (by omega)).trans (ofNat_timingBytes tv)

/-- Settles O33: length, injectivity, and the inverse sample by sample. -/
theorem decodeIsInvertible : Obligations.DecodeIsInvertible := by
  refine ⟨samples_length, fun s u hn hsamples htiming a ha => fbByte_eq_of_decode_eq hn hsamples htiming ha,
    fun s vs tv hlen hpayload htiming => ⟨?_, timing_of_bytes htiming⟩⟩
  refine List.ext_getElem (by rw [samples_length, hlen]) fun i _ hi => ?_
  obtain ⟨hlow, hhigh⟩ := hpayload i (hlen ▸ hi)
  rw [List.getD_eq_getElem _ _ hi] at hlow hhigh
  simp only [samples, List.getElem_map, List.getElem_range]
  exact sample_of_bytes hlow hhigh

/-! ## A frame on the wire -/

/-- R7 (b). -/
theorem lf_not_mem_take_marker_of_wf {p : Params} (h : p.wf = true) : LF ∉ p.marker.take 36 := by
  simp only [Params.wf, Params.markerHasNoInnerLf, Bool.and_eq_true] at h
  obtain ⟨-, hinner⟩ := h
  intro hmem
  simpa using List.all_eq_true.1 hinner LF hmem

/-- R7: the Marker is one line, 36 bytes and then its only LF. -/
theorem take_marker_concat_lf {p : Params} (h : p.wf = true) : p.marker.take 36 ++ [LF] = p.marker := by
  have hlen : (p.marker.take 36).length = 36 := by simp [length_marker_of_wf h]
  exact (concat_lf_eq_marker_iff h).2
    ⟨⟨hlen.le, fun k hk => List.getElem?_take_of_lt (hlen ▸ hk)⟩, hlen⟩

/-- R107, R108: from a line start, the Marker's bytes begin a body. -/
theorem receive_marker {s : State} (hwf : s.cfg.wf = true) (hl : s.loop = .syncing) (hlen : s.lineLen = 0)
    (hmatch : s.lineMatch = true) :
    receive s.cfg.marker s = .next (lineReset { s with loop := .reading, rdCnt := 0 }) := by
  have hline := take_marker_concat_lf hwf
  have hscan : receive (s.cfg.marker.take 36) s = .next (lineSoFar (s.cfg.marker.take 36) s) :=
    scannerHoldsTheLineSoFar _ s hl hlen hmatch (lf_not_mem_take_marker_of_wf hwf)
  have hlf := exec_rxByte_lf_marker (s := lineSoFar (s.cfg.marker.take 36) s) hl
    ((lineSoFar_ends_marker_iff hwf).2 hline)
  calc receive s.cfg.marker s
      = receive (s.cfg.marker.take 36 ++ [LF]) s := by rw [hline]
    _ = receive [LF] (lineSoFar (s.cfg.marker.take 36) s) := receive_append_next hscan
    _ = .next (lineReset { s with loop := .reading, rdCnt := 0 }) := receive_cons_next hlf

/-- Settles O27: the Marker begins a body (`receive_marker`), whose bytes emit the frame they carry. -/
theorem frameOnTheWireIsEmitted : Obligations.FrameOnTheWireIsEmitted := by
  intro vs tv d1 d2 s hwf hl hlen hmatch hp hvs
  obtain ⟨hbody, -, hsamples, htiming⟩ := wireBytesCarryTheFrame s.cfg vs tv d1 d2 hwf hvs
  obtain ⟨t, hread, hsync, ht0, htmatch, -, htrace⟩ :=
    bodyEmitsTheFrameOfItsBytes (bodyBytes vs tv d1 d2) (lineReset { s with loop := .reading, rdCnt := 0 })
      rfl rfl hbody hp
  refine ⟨t, ?_, ?_, hsync, ht0, htmatch⟩
  · rw [frameBytes, receive_append_next (receive_marker hwf hl hlen hmatch), hread]
  · rw [htrace, lineReset_cfg, hsamples, htiming, lineReset_trace]

end Sys2Proof.Machine

/-!
Proofs of the family 44_acquisition_loop.md: START and STOP (R160 to R167), rejected commands (R170), and which way
`loop` can move (R155, R171, R172).
-/

namespace Sys2Proof.Machine

/-! ## START -/

/-- R160. -/
theorem exec_start_accepted (x : BitVec 8) {s : State} (hheld : s.loop.held = true)
    (hrun : s.loop.running = false) (hconn : s.conn = .opened) : exec (.start x) s = .next (startLoop s) :=
  nextIfHeld_eq_next.2 ⟨hheld, by simp [hconn, hrun]⟩

/-- R161. -/
theorem exec_start_rejected (x : BitVec 8) {s : State} (hheld : s.loop.held = true)
    (h : s.conn = .closed ∨ s.loop.running = true) : exec (.start x) s = .next (reject s) := by
  refine nextIfHeld_eq_next.2 ⟨hheld, ?_⟩
  rcases h with hconn | hrun
  · rw [hconn]
  · cases s.conn <;> simp [hrun]

/-- Settles O36. -/
theorem startBeginsALoop : Obligations.StartBeginsALoop := by
  intro x s hconn hloop
  obtain ⟨hheld, hrun⟩ := Loop.held_not_running_iff.2 hloop
  exact exec_start_accepted x hheld hrun hconn

/-- Settles O37. -/
theorem startWhenClosedOrRunningIsRejected : Obligations.StartWhenClosedOrRunningIsRejected :=
  fun x _ hheld h => exec_start_rejected x hheld (h.imp_right Loop.running_iff.2)

/-! ## STOP -/

/-- R164. -/
theorem exec_stop_syncing (x : BitVec 8) {s : State} (hl : s.loop = .syncing) :
    exec (.stop x) s = .next (accept (stopAction s)) :=
  nextIfHeld_eq_next.2 ⟨Loop.held_of_running (running_of_syncing hl), by rw [hl]⟩

/-- R166: what an earlier STOP left in `stop_pending` plays no part. -/
theorem exec_stop_reading (x : BitVec 8) {s : State} (hl : s.loop = .reading) :
    exec (.stop x) s = .next (accept { s with stopPending := true }) :=
  nextIfHeld_eq_next.2 ⟨Loop.held_of_running (running_of_reading hl), by rw [hl]⟩

/-- R167. -/
theorem exec_stop_of_not_running (x : BitVec 8) {s : State}
    (hloop : s.loop = .idle ∨ s.loop = .stopped ∨ s.loop = .terminated) :
    exec (.stop x) s = .next (accept s) := by
  obtain ⟨hheld, -⟩ := Loop.held_not_running_iff.2 hloop
  refine nextIfHeld_eq_next.2 ⟨hheld, ?_⟩
  rcases hloop with hl | hl | hl <;> rw [hl]

/-- Settles O38: the stop action in one update is `stopAction_eq`. -/
theorem stopInSyncingEndsTheLoop : Obligations.StopInSyncingEndsTheLoop := by
  intro x s hl
  rw [exec_stop_syncing x hl, stopAction_eq]
  rfl

/-- Settles O39. -/
theorem stopInReadingIsDeferred : Obligations.StopInReadingIsDeferred :=
  fun x _ hl => exec_stop_reading x hl

/-- Settles O40. -/
theorem stopWhenNotRunningIsAccepted : Obligations.StopWhenNotRunningIsAccepted :=
  fun x _ hloop => exec_stop_of_not_running x hloop

/-! ## Rejected commands -/

/-- Settles O44: each command R170 lists has its own rule of rejection. -/
theorem rejectedCommandsChangeOnlyCmdError : Obligations.RejectedCommandsChangeOnlyCmdError := by
  intro i s hheld hrejected
  cases i with
  | openOk x =>
    obtain ⟨hopenOk, -⟩ := openWhenOpenIsRejected x s hheld (beq_iff_eq.1 hrejected)
    exact hopenOk
  | openFail x =>
    obtain ⟨-, hopenFail⟩ := openWhenOpenIsRejected x s hheld (beq_iff_eq.1 hrejected)
    exact hopenFail
  | close x => exact exec_close_of_running x hrejected
  | start x => exact exec_start_rejected x hheld (by simpa [isRejectedIn] using hrejected)
  | reserved0 x =>
    obtain ⟨hreserved0, -⟩ := reservedKindsAreRejected 0 x s hheld
    exact hreserved0
  | reserved8F k x =>
    obtain ⟨-, hreserved8F⟩ := reservedKindsAreRejected k x s hheld
    exact hreserved8F
  | stop | rxByte | rxTimeout | rxIofail => cases hrejected

/-! ## The moves of `loop` -/

/-- R155, its last sentence: of the cells of the step table, those that write another `loop` are rows of R155's. -/
theorem Effect.loopTransition {i : Instr} {s t : State} (he : Effect s i t) (hne : t.loop ≠ s.loop) :
    LoopTransition s i t.loop := by
  cases he with
  | marker hl hm hk => exact .markerFound hl hm hk
  | frame b hl hc hp => exact .frameDone b hl hc hp
  | frameStop b hl hc hp => exact .frameDoneStop b hl hc hp
  | timeout x hr => exact .timeout x hr
  | ioFailure x hr => exact .ioFailure x hr
  | start x hh hr hc => exact .start x (Loop.held_not_running_iff.1 ⟨hh, hr⟩) hc
  | stop x hl => exact .stop x hl
  | _ => exact absurd rfl hne

/-- R106, R107: only the LF that ends the Marker leaves SYNCING. -/
theorem scan_loop_of_not_marker {b : Byte} {s : State} (h : ¬(b = LF ∧ s.lineMatch = true ∧ s.lineLen = 36)) :
    (scan b s).loop = s.loop := by
  unfold scan
  split
  · rw [scanLf_discard fun hline => h ⟨‹b = LF›, hline⟩, lineReset_loop]
  · exact scanByte_loop b s

/-- R121 to R124: a byte before delimiter 2 stays in READING. -/
theorem Effect.loop_eq_of_insideBody {b : Byte} {s t : State} (he : Effect s (.rxByte b) t)
    (hc : s.rdCnt < 2 * s.cfg.n + 5) (hl : s.loop = .reading) : t.loop = .reading := by
  cases he with
  | scan _ hl' | discard hl' => cases hl.symm.trans hl'
  | marker => rfl
  | payload | delimiter1 | timing => exact hl
  | frame _ _ hc' | frameStop _ _ hc' => exact absurd hc' hc.ne

/-- R155: each row of the table happens. -/
theorem LoopTransition.exists_exec {i : Instr} {s : State} {l : Loop} (h : LoopTransition s i l) :
    ∃ t, exec i s = .next t ∧ t.loop = l := by
  cases h with
  | start x hloop hconn => exact ⟨_, startBeginsALoop x s hconn hloop, rfl⟩
  | markerFound hl hm hk => exact ⟨_, exec_rxByte_lf_marker hl ⟨hm, hk⟩, rfl⟩
  | scanning b hl hline => exact ⟨_, exec_rxByte_syncing b hl, (scan_loop_of_not_marker hline).trans hl⟩
  | bodyByte b hl hc =>
    obtain ⟨t, hexec⟩ := exists_exec_rxByte_reading b hl hc.le
    exact ⟨t, hexec, (exec_effect hexec).loop_eq_of_insideBody hc hl⟩
  | frameDone b hl hc hp =>
    obtain ⟨hscan, -⟩ := delimiterTwoCompletesTheFrame b s hl hc
    exact ⟨_, hscan hp, rfl⟩
  | frameDoneStop b hl hc hp =>
    obtain ⟨-, hstop⟩ := delimiterTwoCompletesTheFrame b s hl hc
    exact ⟨_, hstop hp, rfl⟩
  | stop x hl => exact ⟨_, exec_stop_syncing x hl, rfl⟩
  | timeout x hr => exact ⟨_, exec_rxTimeout_running x hr, rfl⟩
  | ioFailure x hr => exact ⟨_, exec_rxIofail_running x hr, rfl⟩

/-- Settles O42: `Effect.loopTransition` one way, `LoopTransition.exists_exec` the other. -/
theorem loopMovesOnlyAlongTheTable : Obligations.LoopMovesOnlyAlongTheTable :=
  ⟨fun _ _ _ hexec hne => (exec_effect hexec).loopTransition hne, fun _ _ _ => LoopTransition.exists_exec⟩

/-! ## No automatic restart -/

/-- R155, R171: outside a running loop the table has one row, START's. -/
theorem LoopTransition.eq_start_of_not_running {i : Instr} {s : State} {l : Loop} (h : LoopTransition s i l)
    (hrun : s.loop.running = false) : (∃ x, i = .start x) ∧ s.conn = .opened ∧ l = .syncing := by
  cases h with
  | start x _ hconn => exact ⟨⟨x, rfl⟩, hconn, rfl⟩
  | markerFound hl | scanning _ hl | stop _ hl => simp [running_of_syncing hl] at hrun
  | bodyByte _ hl | frameDone _ hl | frameDoneStop _ hl => simp [running_of_reading hl] at hrun
  | timeout _ hr | ioFailure _ hr => simp [hr] at hrun

/-- Settles O45: the loop by R155's table, the connection by R40's row of conn. -/
theorem noAutomaticRestart : Obligations.NoAutomaticRestart := by
  intro i s t hended hexec
  have he := exec_effect hexec
  obtain ⟨-, hrun⟩ := Loop.held_not_running_iff.2 (.inr hended)
  refine ⟨?_, fun hclosed hopened => ?_⟩
  · by_cases hsame : t.loop = s.loop
    · exact .inl hsame
    · exact .inr ((he.loopTransition hsame).eq_start_of_not_running hrun)
  · rcases he.conn_written (by simp [hclosed, hopened]) with ⟨hopen, -⟩ | ⟨-, -, hconn⟩ | ⟨hrun', -⟩
    · exact hopen
    · cases hclosed.symm.trans hconn
    · cases hrun.symm.trans hrun'

/-! ## A loop that has ended is reported -/

/-- R172: in STOPPED or TERMINATED the trace holds an END. -/
def EndIsInTrace (s : State) : Prop :=
  s.loop = .stopped ∨ s.loop = .terminated → ∃ r, OutEvent.ended r ∈ s.trace

/-- In IDLE there is no END to report, after reset (R200) or before the first loop. -/
theorem endIsInTrace_of_idle {s : State} (hl : s.loop = .idle) : EndIsInTrace s := by
  simp [EndIsInTrace, hl]

/-- R80, R165, R181: an event that ends the loop emits END, and no event takes an output back. -/
theorem EndIsInTrace.exec {i : Instr} {s t : State} (h : EndIsInTrace s) (hexec : exec i s = .next t) :
    EndIsInTrace t := by
  intro hend
  by_cases hsame : t.loop = s.loop
  · obtain ⟨r, hmem⟩ := h (hsame ▸ hend)
    obtain ⟨htrace, -⟩ := (exec_effect hexec).outputs_and_end
    exact ⟨r, htrace ▸ List.mem_append_left _ hmem⟩
  · obtain ⟨-, -, -, -, -, pre, r, htrace, -⟩ := endOfALoopClosesTheConnection i s t hexec hsame hend
    exact ⟨r, by simp [htrace]⟩

theorem EndIsInTrace.step {s t : State} (h : EndIsInTrace s) (hstep : step s = .next t) : EndIsInTrace t := by
  obtain ⟨-, ⟨ev, rest, -, hexec⟩ | ⟨lost, rest, -, rfl⟩⟩ := step_cases hstep
  · exact EndIsInTrace.exec (s := { s with input := rest }) h hexec
  · exact endIsInTrace_of_idle rfl

theorem Reachable.endIsInTrace {p : Params} {s : State} (hs : Reachable p s) : EndIsInTrace s := by
  induction hs with
  | reset => exact endIsInTrace_of_idle rfl
  | step _ hstep ih => exact ih.step hstep

/-- Settles O46: the code is R32's layout in every state, the END is an invariant of the run. -/
theorem terminationIsReportedApartFromWaiting : Obligations.TerminationIsReportedApartFromWaiting := by
  intro p s _ hs
  obtain ⟨hloop, -⟩ := statusWord_fields s
  rw [hloop]
  exact ⟨congrArg Loop.code, congrArg Loop.code, congrArg Loop.code, hs.endIsInTrace⟩

end Sys2Proof.Machine

/-!
Proofs of the family 60_exceptions.md: a failed read in a running loop and outside one (R179, R180), and the orders
of simultaneous events (R185, R186).
-/

namespace Sys2Proof.Machine

/-! ## A failed read -/

/-- R179, R180: outside a running loop what RX_TIMEOUT and RX_IOFAIL share changes nothing. -/
theorem nextIfHeld_readError_of_not_running (k : FatalKind) {s : State}
    (hloop : s.loop = .idle ∨ s.loop = .stopped ∨ s.loop = .terminated) :
    nextIfHeld s (readError k s) = .next s := by
  obtain ⟨hheld, hrun⟩ := Loop.held_not_running_iff.2 hloop
  exact nextIfHeld_eq_next.2 ⟨hheld, readError_ignored k hrun⟩

/-- Settles O47: fatal termination in one update is `raiseFatal_eq`. -/
theorem timeoutEndsARunningLoop : Obligations.TimeoutEndsARunningLoop :=
  fun x s =>
    ⟨fun hloop => (exec_rxTimeout_running x (Loop.running_iff.2 hloop)).trans (congrArg _ (raiseFatal_eq .timeout s)),
      nextIfHeld_readError_of_not_running .timeout⟩

/-- Settles O48, by the same two lemmas about what both failures share. -/
theorem ioFailureEndsARunningLoop : Obligations.IoFailureEndsARunningLoop :=
  fun x s =>
    ⟨fun hloop => (exec_rxIofail_running x (Loop.running_iff.2 hloop)).trans (congrArg _ (raiseFatal_eq .ioFailure s)),
      nextIfHeld_readError_of_not_running .ioFailure⟩

/-! ## Two events, one after the other -/

theorem execAll_pair {i j : Instr} {s t u : State} (hi : exec i s = .next t) (hj : exec j t = .next u) :
    execAll [i, j] s = .next u := by
  rw [execAll_cons_next hi, execAll_cons_next hj, execAll_nil]

/-- R142: the decoded frame reads FB, and no STOP changes FB. -/
theorem decodedFrame_accept_stopPending (s : State) :
    decodedFrame (accept { s with stopPending := true }) = decodedFrame s := rfl

/-- R125, R165: the last body byte after a STOP in READING. -/
theorem execAll_stop_delimiter2 (b : Byte) (x : BitVec 8) {s : State} (hl : s.loop = .reading)
    (hc : s.rdCnt = 2 * s.cfg.n + 5) :
    ∃ t, execAll [.stop x, .rxByte b] s = .next t ∧
      t.trace = s.trace ++ [decodedFrame s, .closeReq, .ended .stopped] := by
  have hbyte := exec_rxByte_delimiter2 b (s := accept { s with stopPending := true }) hl hc
  refine ⟨_, execAll_pair (exec_stop_reading x hl) hbyte, ?_⟩
  rw [completeFrame_eq_finishBody, finishBody_stop _ rfl, decodedFrame_accept_stopPending]
  rfl

/-- R125: with no stop pending, the last body byte emits FRAME and leaves the loop scanning. -/
theorem exec_rxByte_delimiter2_scan (b : Byte) {s : State} (hl : s.loop = .reading)
    (hc : s.rdCnt = 2 * s.cfg.n + 5) (hp : s.stopPending = false) :
    ∃ t, exec (.rxByte b) s = .next t ∧ t.loop = .syncing ∧ t.trace = s.trace ++ [decodedFrame s] := by
  obtain ⟨hscan, -⟩ := delimiterTwoCompletesTheFrame b s hl hc
  exact ⟨_, hscan hp, rfl, rfl⟩

/-- R164, R186: the stop action follows the frame at once. -/
theorem execAll_delimiter2_stop (b : Byte) (x : BitVec 8) {s : State} (hl : s.loop = .reading)
    (hc : s.rdCnt = 2 * s.cfg.n + 5) (hp : s.stopPending = false) :
    ∃ t, execAll [.rxByte b, .stop x] s = .next t ∧
      t.trace = s.trace ++ [decodedFrame s, .closeReq, .ended .stopped] := by
  obtain ⟨t, hbyte, htl, htrace⟩ := exec_rxByte_delimiter2_scan b hl hc hp
  refine ⟨_, execAll_pair hbyte (exec_stop_syncing x htl), ?_⟩
  rw [stopAction_eq]
  simp [accept, htrace]

/-- R179, R186: a timeout after the last body byte finds the loop in SYNCING. -/
theorem execAll_delimiter2_timeout (b : Byte) (x : BitVec 8) {s : State} (hl : s.loop = .reading)
    (hc : s.rdCnt = 2 * s.cfg.n + 5) (hp : s.stopPending = false) :
    ∃ t, execAll [.rxByte b, .rxTimeout x] s = .next t ∧
      t.trace = s.trace ++ [decodedFrame s, .closeReq, .ended .timeout] := by
  obtain ⟨t, hbyte, htl, htrace⟩ := exec_rxByte_delimiter2_scan b hl hc hp
  refine ⟨_, execAll_pair hbyte (exec_rxTimeout_running x (running_of_syncing htl)), ?_⟩
  rw [raiseFatal_eq]
  simp [htrace, FatalKind.reason]

/-- R76, R186: a fatal termination leaves no body byte a step. -/
theorem exec_rxByte_raiseFatal (b : Byte) (k : FatalKind) (s : State) :
    exec (.rxByte b) (raiseFatal k s) = .refused .rxNotReady := exec_rxByte_of_not_running b rfl rfl

/-- Settles O49, order by order. -/
theorem outcomesOfSimultaneousEvents : Obligations.OutcomesOfSimultaneousEvents := by
  refine ⟨fun b x s hl hc hp => ?_, fun b x s hl hc hp => ⟨?_, execAll_delimiter2_timeout b x hl hc hp⟩,
    fun x y s hl => ?_⟩
  · obtain ⟨t, hstopFirst, ht⟩ := execAll_stop_delimiter2 b x hl hc
    obtain ⟨u, hbyteFirst, hu⟩ := execAll_delimiter2_stop b x hl hc hp
    exact ⟨t, u, hstopFirst, hbyteFirst, ht, hu.trans ht.symm⟩
  · refine ⟨_, exec_rxTimeout_running x (running_of_reading hl), ?_, exec_rxByte_raiseFatal b .timeout s⟩
    rw [raiseFatal_eq]
    rfl
  · have hstopFirst := execAll_pair (exec_stop_reading x hl)
      (exec_rxTimeout_running y (s := accept { s with stopPending := true }) (running_of_reading hl))
    have htimeoutFirst := execAll_pair (exec_rxTimeout_running y (running_of_reading hl))
      (exec_stop_of_not_running x (s := raiseFatal .timeout s) (.inr (.inr rfl)))
    exact ⟨_, _, hstopFirst, htimeoutFirst, rfl, rfl⟩

end Sys2Proof.Machine

/-!
Proofs of the family 70_reset_and_hazards.md: the reset input acts in every state, and a same-step event is lost
(R200, R201, R202).
-/

namespace Sys2Proof.Machine

/-- R201: the reset input is taken whatever arrives with it, and that event is gone. -/
theorem takeInput_reset {s : State} {lost : Option EventWord} {rest : List Input}
    (hinput : s.input = .reset lost :: rest) : takeInput s = .reset { s with input := rest } := by
  rw [takeInput, hinput]

/-- R200: the step at the reset input, with no condition on the fields; the converse of `step_cases`' reset case. -/
theorem step_reset {s : State} {lost : Option EventWord} {rest : List Input} (hwf : s.cfg.wf = true)
    (hinput : s.input = .reset lost :: rest) : step s = .next (resetInput { s with input := rest }) := by
  rw [step, if_pos hwf, takeInput_reset hinput]

/-- Settles O11: the step is `step_reset`'s, and `resetInput` writes R39's value into each field. -/
theorem resetInputActsInEveryState : Obligations.ResetInputActsInEveryState := by
  intro s lost rest hwf hinput
  exact ⟨_, step_reset hwf hinput, resetInput_loop _, resetInput_conn _, resetInput_lineLen _,
    resetInput_lineMatch _, resetInput_rdCnt _, resetInput_stopPending _, resetInput_lastError _,
    resetInput_cmdError _, resetInput_trace _, resetInput_cfg _, resetInput_input _⟩

end Sys2Proof.Machine

/-!
Proofs of the remaining statements: when a step is refused (R6, R7, R195; log entries 2 and 6), and clause 8 of R35,
which an OPEN after the end of a loop breaks and no other event does (R91; log entry 5).
-/

namespace Sys2Proof.Machine

/-! ## Steps that are refused -/

/-- R195: at an empty port there is nothing to take. -/
theorem takeInput_nil {s : State} (hinput : s.input = []) : takeInput s = .nothing := by rw [takeInput, hinput]

/-- Settles O6. -/
theorem stepRefusesWithoutEventOrParams : Obligations.StepRefusesWithoutEventOrParams := by
  refine ⟨fun s hwf hinput => ?_, fun s hwf => ?_⟩
  · rw [step, if_pos hwf, takeInput_nil hinput]
  · rw [step, if_neg (by simp [hwf])]

/-! ## Which states a run of events reaches -/

theorem Reachable.run {p : Params} {s t : State} (hs : Reachable p s) {k : Nat} (hrun : core.run k s = .next t) :
    Reachable p t := by
  induction k generalizing s with
  | zero =>
    cases hrun
    exact hs
  | succ k ih =>
    rw [run_succ] at hrun
    cases hstep : Machine.step s with
    | next u =>
      rw [hstep] at hrun
      exact ih (hs.step hstep) hrun
    | fault | refused =>
      rw [hstep] at hrun
      cases hrun

/-- R18, R59: the environment can present any events, so a run of events from reset ends in a reachable state. -/
theorem reachable_of_execAll {p : Params} (hp : p.wf = true) {is : List Instr} {t : State}
    (hexec : execAll is (State.resetWith p) = .next t) : Reachable p t := by
  have hwords : (is.map encode).map decode = is := Function.LeftInverse.list_map decode_encode is
  have hrun := stepsRunTheDeliveredEventsInOrder (State.resetWith p) (is.map encode) hp rfl
  rw [hwords, hexec, deliver_eq rfl] at hrun
  exact (Reachable.reset _).run hrun

/-! ## Clause 8 of R35 -/

/-- R91, R160: OPEN and START take the machine from reset to SYNCING. -/
theorem exists_execAll_open_start (p : Params) :
    ∃ s, execAll [.openOk 0, .start 0] (State.resetWith p) = .next s ∧ s.loop = .syncing := by
  have hopen := openOkOpensAClosedConnection 0 (State.resetWith p) rfl rfl
  exact ⟨_, execAll_pair hopen (exec_start_accepted 0 rfl rfl rfl), startLoop_loop _⟩

/-- R91 after R165 or R181: an event that ends the loop in SYNCING, then OPEN again, leave the ended loop with its
connection OPEN. -/
theorem exists_reachable_opened_of_loop_ends {p : Params} (hp : p.wf = true) {i : Instr} {l : Loop}
    (hl : l = .stopped ∨ l = .terminated)
    (hends : ∀ s : State, s.loop = .syncing → LoopTransition s i l) :
    ∃ s, Reachable p s ∧ s.loop = l ∧ s.conn = .opened := by
  obtain ⟨hheld, hstop⟩ := Loop.held_not_running_iff.2 (.inr hl)
  obtain ⟨s, hstart, hsyncing⟩ := exists_execAll_open_start p
  obtain ⟨t, hend, rfl⟩ := (hends s hsyncing).exists_exec
  have hclosed : t.conn = .closed :=
    (exec_effect hend).conn_closed_of_loop_ends ⟨running_of_syncing hsyncing, hstop⟩
  have hreopen := openOkOpensAClosedConnection 0 t hheld hclosed
  exact ⟨_, reachable_of_execAll hp ((execAll_append_next hstart).trans (execAll_pair hend hreopen)), rfl, rfl⟩

theorem not_closedWhenEnded_of_opened {s : State} (hended : s.loop = .stopped ∨ s.loop = .terminated)
    (hopened : s.conn = .opened) : ¬ ClosedWhenEnded s := fun h => by
  cases hopened.symm.trans (h hended)

/-- Before the first loop clause 8 asks nothing. -/
theorem closedWhenEnded_resetWith (p : Params) : ClosedWhenEnded (State.resetWith p) := by
  simp [ClosedWhenEnded]

/-- R40's row of conn: where `loop` does not move, only OPEN answered "opened" opens the connection. -/
theorem Effect.conn_closed_of_same_loop {i : Instr} {s t : State} (he : Effect s i t) (hi : ∀ x, i ≠ .openOk x)
    (hsame : t.loop = s.loop) (hclosed : s.conn = .closed) : t.conn = .closed := by
  by_contra hne
  rcases he.conn_written (hclosed ▸ hne) with ⟨⟨x, hopen⟩, -⟩ | ⟨-, -, hopened⟩ | ⟨hrun, hstop⟩
  · exact hi x hopen
  · cases hclosed.symm.trans hopened
  · rw [hsame, hrun] at hstop
    cases hstop

/-- Where the loop ends the connection closes (O53); where it had ended, no event but OPEN opens it. -/
theorem ClosedWhenEnded.exec {i : Instr} {s t : State} (h : ClosedWhenEnded s) (hexec : exec i s = .next t)
    (hi : ∀ x, i ≠ .openOk x) : ClosedWhenEnded t := by
  intro hended
  by_cases hsame : t.loop = s.loop
  · exact (exec_effect hexec).conn_closed_of_same_loop hi hsame (h (hsame ▸ hended))
  · obtain ⟨hclosed, -⟩ := endOfALoopClosesTheConnection i s t hexec hsame hended
    exact hclosed

/-- Settles O57: STOP and RX_TIMEOUT in SYNCING end the loops that OPEN then breaks clause 8 in. -/
theorem openWhileEndedBreaksClauseEight : Obligations.OpenWhileEndedBreaksClauseEight := by
  refine ⟨fun p hp => ⟨?_, ?_⟩, closedWhenEnded_resetWith, fun i s t hexec hi h => h.exec hexec hi⟩
  · exact exists_reachable_opened_of_loop_ends hp (.inl rfl) fun _ hl => .stop 0 hl
  · obtain ⟨s, hs, hl, hopened⟩ := exists_reachable_opened_of_loop_ends hp (.inr rfl) fun _ hl =>
      .timeout 0 (running_of_syncing hl)
    exact ⟨s, hs, hl, not_closedWhenEnded_of_opened (.inr hl) hopened⟩

end Sys2Proof.Machine
